-- ==== Sys2Proof/Word.lean ====
section
/-! DEFINITION. The two word types of the wire (00_scope.md R9): a byte is 8 bits, a word is 16 bits.
Every value is unsigned. Byte order and field assembly stand in Sys2Proof/Decode.lean. -/

namespace Sys2Proof

/-- A byte, bit 7 the most significant (R9). -/
abbrev Byte := BitVec 8

/-- A 16-bit word, bit 15 the most significant (R9). -/
abbrev Word := BitVec 16

end Sys2Proof
end

