-- ==== Sys2Proof/Syntax.lean ====
section
/-! DEFINITION. The instructions of the handler: the requests it decodes (00_scope.md R2). Four come from a 10-byte
control block (30_encoding.md R84, R94), three from an 8-byte status block (R80, R82). Operands are the blocks' fields,
already assembled from the big-endian wire (R86). -/

namespace Sys2Proof

/-- The operand fields of a control block, every byte of it but the opcode `CB[0]` (30_encoding.md R84). -/
structure RequestFields where
  /-- `CB[1]`: the attribute byte of an open, the error field of every response (R89). -/
  err : Byte
  /-- `CB[2..3]`: the destination address of the record, big-endian. -/
  buf : Word
  /-- `CB[4]`: the requested length. -/
  rlen : Byte
  /-- `CB[5]`: the returned length (R88). -/
  retlen : Byte
  /-- `CB[6..7]`: the record number, big-endian. -/
  recNo : Word
  /-- `CB[8]`: not named by the source, carried unchanged. -/
  x8 : Byte
  /-- `CB[9]`: not named by the source, carried unchanged. -/
  x9 : Byte
  deriving DecidableEq, Repr

/-- One constructor per instruction of the opcode table. Its seven INVALID rows together are the one class
`OPC` 0x03-0xFF of 30_encoding.md R94, so they share the constructor that carries the opcode byte (log 27). -/
inductive Instr where
  /-- OPEN, `OPC` = 0x00 (41_storage_service.md R156). -/
  | openReq (f : RequestFields)
  /-- CLOSE, `OPC` = 0x01 (41_storage_service.md R153). -/
  | closeReq (f : RequestFields)
  /-- READ, `OPC` = 0x02 (42_storage_read.md R170). -/
  | readReq (f : RequestFields)
  /-- INVALID, `OPC` in 0x03-0xFF (41_storage_service.md R157). -/
  | invalidReq (opc : Byte) (f : RequestFields)
  /-- SUCCESS: `SB[0]` = 0 and `SB[1]` = 0 (40_supervisor.md R127). -/
  | success (computed expected : Word)
  /-- STORAGE: `SB[0]` = 0 and `SB[1]` ≠ 0 (40_supervisor.md R125). -/
  | storage (request computed expected : Word)
  /-- ERROR: `SB[0]` ≠ 0 (40_supervisor.md R122). -/
  | error (result request computed expected : Word)
  deriving DecidableEq, Repr

/-- The handler's two wire formats (30_encoding.md, opening). Which one is read is fixed by the sequencer state. -/
inductive BlockFormat where
  | control
  | status
  deriving DecidableEq, Repr

/-- The wire format an instruction is encoded in. -/
def Instr.format : Instr → BlockFormat
  | .openReq _ => .control
  | .closeReq _ => .control
  | .readReq _ => .control
  | .invalidReq _ _ => .control
  | .success _ _ => .status
  | .storage _ _ _ => .status
  | .error _ _ _ _ => .status

end Sys2Proof
end

