-- ==== Sys2Proof/Config.lean ====
section
/-! DEFINITION. The configuration: the constants the document fixes (00_scope.md R6), the parameters it leaves open (R7),
the spec's example configuration EX (92_eei_decisions.md D28), and the free values of the environment. A configuration is
plain data held in State, so that a statement about every state is a statement about every configuration. -/

namespace Sys2Proof

/-- A filename tag: the bytes at offsets 19 and 20, as a byte pair in address order (30_encoding.md R99, D7). -/
structure Tag where
  c0 : Byte
  c1 : Byte
  deriving DecidableEq, Repr

/-- The constants of 00_scope.md R6, each a field whose default is the document's value (D2; log 2). What the model does with other
values, such as those that break RECS_PER_BANK * REC_SIZE <= BANK_SIZE, is its choice (log 35). -/
structure Consts where
  /-- `REC_SIZE`. -/
  recSize : Nat := 128
  /-- `RECS_PER_BANK`. -/
  recsPerBank : Nat := 126
  /-- `BANK_SIZE`. -/
  bankSize : Nat := 16384
  /-- `CB_LEN`, the bytes of the control block's short read. The layout of 30_encoding.md R84 is the one for 10 (log 33). -/
  cbLen : Nat := 10
  /-- `TAG_OFF`. -/
  tagOff : Nat := 19
  /-- `SB_WORDS`, the 16-bit words of a status block. The layout of 30_encoding.md R80 is the one for 4 (log 33). -/
  sbWords : Nat := 4
  /-- `OP_OPEN`. -/
  opOpen : Byte := 0x00
  /-- `OP_CLOSE`. -/
  opClose : Byte := 0x01
  /-- `OP_READ`. -/
  opRead : Byte := 0x02
  /-- `ERR_BADATTR`. -/
  errBadAttr : Byte := 0x40
  /-- `ERR_EOF`. -/
  errEof : Byte := 0xA0
  /-- `ERR_BADNAME`. -/
  errBadName : Byte := 0xE0
  /-- `TAG1` = "BI", ASCII 0x42 0x49 (R9; log 18). -/
  tag1 : Tag := ⟨0x42, 0x49⟩
  deriving DecidableEq, Repr

/-- Every constant at the document's value. -/
def Consts.document : Consts := {}

/-- `KEY_ORDER`: whether a RUNNING cycle tests busy before or after it forwards the key (40_supervisor.md R117, R118). -/
inductive KeyOrder where
  | checkFirst
  | writeFirst
  deriving DecidableEq, Repr

/-- The configuration of a system: the parameters of 00_scope.md R7 and the constants of R6. No step changes it. -/
structure Config where
  /-- `CP_MEM_SIZE`: bytes of co-processor memory (D4). -/
  cpMemSize : Nat
  /-- `STATUS_ADDR`: co-processor address of the status block (D3). -/
  statusAddr : Nat
  /-- `INPUT_ADDR`: co-processor address the key byte goes to (D3). -/
  inputAddr : Nat
  /-- `PROG_START`: co-processor program-start address (D3). -/
  progStart : Nat
  /-- `PAGE_BASE`: host address of the active bank window (D3); informational (20_memory.md R50). -/
  pageBase : Nat
  /-- `BANK_W`: width in bits of a bank number (D5). -/
  bankW : Nat
  /-- `B0`: file 1's first bank (30_encoding.md R100, D6). -/
  b0 : Nat
  /-- `B1`: file 2's first bank and file 1's end. -/
  b1 : Nat
  /-- `B2`: the reserved third slot, file 2's end. -/
  b2 : Nat
  /-- `TAG2`: file 2's tag (D7). -/
  tag2 : Tag
  /-- `OPEN_ATTR`: the one attribute byte an open accepts (D8). -/
  openAttr : Byte
  /-- `PROBE_PAYLOAD`: the probe's bytes (D17). -/
  probePayload : List Byte
  /-- `UPDATE_PAYLOAD`: the update program's bytes (D29). -/
  updatePayload : List Byte
  /-- `KEY_TABLE`: the HAL's 16-entry key table; the handler never reads it (D24, 93_implementation_defined.md U12). -/
  keyTable : Vector Byte 16
  /-- `KEY_NONE`: the "no key" sentinel; the handler never reads it (D24, U12). -/
  keyNone : Byte
  /-- `BANK_RESET`: the bank selected at reset (D19). A value that is no bank number is not excluded (log 34). -/
  bankReset : Nat
  /-- `KEY_ORDER` (D14). -/
  keyOrder : KeyOrder
  /-- `ROM(bank, off)`, as cells at address bank * BANK_SIZE + off; what an unlisted cell reads as is log 7 (D32). -/
  rom : List Host.Cell
  /-- The document's constants (R6). -/
  consts : Consts := {}
  deriving DecidableEq, Repr

/-- The spec's example configuration EX (92_eei_decisions.md D28), with no ROM cell listed. The fields D28 does not give
(BANK_RESET, KEY_TABLE, KEY_NONE, the listed ROM) are the model's (DESIGN CHOICE, log 3 and log 4). -/
def Config.ex : Config where
  cpMemSize := 0x4000
  statusAddr := 0x3F00
  inputAddr := 0x3F08
  progStart := 0x3000
  pageBase := 0xC000
  bankW := 8
  b0 := 0xF0
  b1 := 0xF8
  b2 := 0xFF
  tag2 := ⟨0x5A, 0x32⟩
  openAttr := 0x5A
  probePayload := [0x11, 0x22, 0x33, 0x44]
  updatePayload := [0xAA, 0xBB, 0xCC, 0xDD]
  keyTable := Vector.replicate 16 0x00
  keyNone := 0x00
  bankReset := 0
  keyOrder := .checkFirst
  rom := []

/-- What the running co-processor does between two handler steps (60_exceptions.md R214): the bytes it writes, in order,
and whether it then halts. Its reads change nothing (log 14). -/
structure CpMove where
  writes : List (Nat × Byte)
  halts : Bool
  deriving DecidableEq, Repr, Inhabited

/-- FREE VALUE: the co-processor's n-th move that no script gives (R214; log 11). -/
opaque Config.freeCpMove : Nat → CpMove

/-- FREE VALUE: the key byte of the n-th draw that no script gives (40_supervisor.md R119, D24; log 11). -/
opaque Config.freeKey : Nat → Byte

end Sys2Proof
end

