-- ==== Sys2Proof/WellFormed.lean ====
section
/-! DEFINITION. What is well formed: an instruction under the opcode constants (30_encoding.md R82, R94) and a configuration
(70_reset_and_hazards.md R234). -/

namespace Sys2Proof

/-- The three opcodes differ, so that each of OPEN, CLOSE and READ has a byte of its own (30_encoding.md R94). -/
def Consts.opcodesDistinct (k : Consts) : Bool :=
  k.opOpen != k.opClose && k.opOpen != k.opRead && k.opClose != k.opRead

/-- An instruction is well formed when its operands lie in its class: an INVALID opcode is none of the three defined ones
(R94), a STORAGE request is non-zero and an ERROR result is non-zero (R82). -/
def Instr.wf (k : Consts) : Instr → Bool
  | .openReq _ => true
  | .closeReq _ => true
  | .readReq _ => true
  | .invalidReq opc _ => opc != k.opOpen && opc != k.opClose && opc != k.opRead
  | .success _ _ => true
  | .storage request _ _ => request != 0
  | .error result _ _ _ => result != 0

/-- The probe payload's first two bytes are both there and both zero: the configuration of 40_supervisor.md R114 under which
the probe would not fail safe. A payload shorter than two bytes does not have them (DEDUCED, log 9). -/
def Config.probeBlind (c : Config) : Bool :=
  c.probePayload[0]? == some 0 && c.probePayload[1]? == some 0

/-- The configuration requirements of 70_reset_and_hazards.md R234 (the recommended no-aliasing condition is apart:
`Config.noAliasing`). -/
def Config.wf (c : Config) : Bool :=
  decide (c.cpMemSize ≤ 2 ^ 16) && decide (c.b0 < c.b1) && decide (c.b1 < c.b2) && decide (c.b2 ≤ 2 ^ c.bankW - 1)
    && c.consts.tag1 != c.tag2 && !c.probeBlind

/-- The sufficient condition of 42_storage_read.md R190 for no aliasing; R234 recommends it and the handler does not check it. -/
def Config.noAliasing (c : Config) : Bool :=
  decide (c.b1 + 520 < 2 ^ c.bankW + c.b0)

end Sys2Proof
end

