-- ==== Sys2Proof/Decode.lean ====
section
/-! DEFINITION. Decoding and encoding of the two wire formats (30_encoding.md R80-R95). Every multi-byte field is
big-endian (20_memory.md R52, R53). Decoding is total on any bytes: a block of the wrong length is rejected by name, every
block of the right length is some instruction (R81, R94). -/

namespace Sys2Proof

/-- `be16(b0, b1) = b0 || b1`: a word from two bytes, the first the high one (00_scope.md R10). -/
def be16 (b0 b1 : Byte) : Word := b0 ++ b1

/-- `v[15:8]`, the byte at the lower address (20_memory.md R53). -/
def hiByte (v : Word) : Byte := v.extractLsb' 8 8

/-- `v[7:0]`, the byte at the next address (20_memory.md R53). -/
def loByte (v : Word) : Byte := v.extractLsb' 0 8

/-- A whole control block `CB[0..9]`: the opcode byte and the operand fields (30_encoding.md R84, 10_state.md R27). -/
structure ControlBlock extends RequestFields where
  /-- `CB[0]`: the opcode. -/
  opc : Byte
  deriving DecidableEq, Repr

/-- The ten bytes `CB[0..9]` in address order (R84). -/
def ControlBlock.bytes (b : ControlBlock) : List Byte :=
  [b.opc, b.err, hiByte b.buf, loByte b.buf, b.rlen, b.retlen, hiByte b.recNo, loByte b.recNo, b.x8, b.x9]

/-- The control block of ten bytes in address order (R84, R86). -/
def ControlBlock.ofBytes : List Byte → Option ControlBlock
  | [c0, c1, c2, c3, c4, c5, c6, c7, c8, c9] =>
    some { opc := c0, err := c1, buf := be16 c2 c3, rlen := c4, retlen := c5, recNo := be16 c6 c7, x8 := c8, x9 := c9 }
  | _ => none

/-- The four words of a status block, in host order (30_encoding.md R80, R81). -/
structure StatusBlock where
  /-- `SB[0]`: the result code. -/
  result : Word
  /-- `SB[1]`: the storage-request address. -/
  request : Word
  /-- `SB[2]`: the computed checksum. -/
  computed : Word
  /-- `SB[3]`: the expected checksum. -/
  expected : Word
  deriving DecidableEq, Repr

/-- The eight bytes of a status block in address order (R80). -/
def StatusBlock.bytes (b : StatusBlock) : List Byte :=
  [hiByte b.result, loByte b.result, hiByte b.request, loByte b.request,
    hiByte b.computed, loByte b.computed, hiByte b.expected, loByte b.expected]

/-- The status block of eight bytes: `SB[i] = be16(b[2i], b[2i+1])` (R80). -/
def StatusBlock.ofBytes : List Byte → Option StatusBlock
  | [b0, b1, b2, b3, b4, b5, b6, b7] => some ⟨be16 b0 b1, be16 b2 b3, be16 b4 b5, be16 b6 b7⟩
  | _ => none

/-- The opcode classes, in the order the service tests them (30_encoding.md R94): CLOSE, READ, OPEN, everything else. -/
def ControlBlock.request (k : Consts) (b : ControlBlock) : Instr :=
  if b.opc = k.opClose then .closeReq b.toRequestFields
  else if b.opc = k.opRead then .readReq b.toRequestFields
  else if b.opc = k.opOpen then .openReq b.toRequestFields
  else .invalidReq b.opc b.toRequestFields

/-- The dispatch classes, `SB[0]` tested first (30_encoding.md R82). -/
def StatusBlock.dispatch (b : StatusBlock) : Instr :=
  if b.result ≠ 0 then .error b.result b.request b.computed b.expected
  else if b.request ≠ 0 then .storage b.request b.computed b.expected
  else .success b.computed b.expected

/-- Why bytes are no instruction. -/
inductive DecodeError where
  /-- Not the ten bytes of a control block. -/
  | controlBlockLength
  /-- Not the eight bytes of a status block. -/
  | statusBlockLength
  deriving DecidableEq, Repr

/-- Decode the bytes of a block of the given format under the opcode constants. -/
def decode (k : Consts) (fmt : BlockFormat) (bs : List Byte) : Except DecodeError Instr :=
  match fmt with
  | .control =>
    match ControlBlock.ofBytes bs with
    | some b => .ok (b.request k)
    | none => .error .controlBlockLength
  | .status =>
    match StatusBlock.ofBytes bs with
    | some b => .ok b.dispatch
    | none => .error .statusBlockLength

/-- The control block that an opcode byte and operand fields make. -/
def ControlBlock.ofFields (opc : Byte) (f : RequestFields) : ControlBlock :=
  { toRequestFields := f, opc := opc }

/-- The bytes of an instruction, from the layouts of R80 and R84. -/
def encode (k : Consts) : Instr → List Byte
  | .openReq f => (ControlBlock.ofFields k.opOpen f).bytes
  | .closeReq f => (ControlBlock.ofFields k.opClose f).bytes
  | .readReq f => (ControlBlock.ofFields k.opRead f).bytes
  | .invalidReq opc f => (ControlBlock.ofFields opc f).bytes
  | .success computed expected => (StatusBlock.mk 0 0 computed expected).bytes
  | .storage request computed expected => (StatusBlock.mk 0 request computed expected).bytes
  | .error result request computed expected => (StatusBlock.mk result request computed expected).bytes

/-- The ten bytes of a control block whose opcode is the table's 8-bit value and whose other bytes are 0. -/
def tableControlBytes (w : Nat) : List Byte := BitVec.ofNat 8 w :: List.replicate 9 0

/-- The status block of a table value: SB[0] is bits 31 to 16 and SB[1] is bits 15 to 0 of the matched value
(opcode_table.json, source_fields of the STATUS_DISPATCH rows; log 26), the checksums are 0. -/
def tableStatusBlock (w : Nat) : StatusBlock := ⟨BitVec.ofNat 16 (w / 2 ^ 16), BitVec.ofNat 16 w, 0, 0⟩

/-- The instruction the decoder reads from a row's value under the document's constants: the control-block rows have 8 bits,
the status-block rows 32. -/
def decodeTableWord (nbits w : Nat) : Option Instr :=
  if nbits = 8 then (decode .document .control (tableControlBytes w)).toOption
  else if nbits = 32 then (decode .document .status (tableStatusBlock w).bytes).toOption
  else none

end Sys2Proof
end

