-- ==== Sys2Proof/Machine/State.lean ====
section
/-! DEFINITION. The state of the machine: the handler's latches and sequencer (10_state.md R20), the environment's state the
handler reaches (20_memory.md R50), the configuration, and the model's own bookkeeping. All plain data. -/

namespace Sys2Proof.Machine

/-- The sequencer state, the counterpart of a program counter (10_state.md R21). -/
inductive SeqState where
  | probeLoad
  | probeCheck
  | upload
  | running
  | checkResult
  | dispatchError
  | dispatchStorage
  | dispatchSuccess
  | haltSuccess
  | haltFailure
  | fault
  deriving DecidableEq, Repr

/-- The whole-screen indicator last emitted (R20, R31). -/
inductive Indicator where
  | none
  | success
  | failure
  deriving DecidableEq, Repr

/-- The fixed message last emitted (R20, R31). -/
inductive Message where
  | none
  | unsupported
  | checksumMismatch
  deriving DecidableEq, Repr

/-- The fault latch (R20): NONE, or the one reason of 60_exceptions.md R205. -/
inductive FaultReason where
  | none
  | cpRange
  deriving DecidableEq, Repr

/-- The output events of 40_supervisor.md R138. -/
inductive Output where
  | indSuccess
  | indFailure
  | msgUnsupported
  | msgChecksumMismatch
  deriving DecidableEq, Repr

/-- One transaction at one interface, as the traces of 95_test_vectors.md section 0 list them. -/
inductive Event where
  /-- `R(a, n) = bytes`. -/
  | memRead (a : Nat) (bytes : List Byte)
  /-- `W(a, bytes)`. -/
  | memWrite (a : Nat) (bytes : List Byte)
  /-- `SW(b)`. -/
  | switchBank (b : Nat)
  /-- `RR(off, n)`. -/
  | romRead (off n : Nat)
  /-- `START(a)`. -/
  | cpStart (a : Nat)
  /-- `CONT`. -/
  | cpContinue
  /-- `BUSY = v`. -/
  | cpBusy (v : Bool)
  /-- `KEY = k`. -/
  | pollKey (k : Byte)
  /-- `EMIT e`. -/
  | emit (e : Output)
  deriving DecidableEq, Repr

/-- A byte memory: the cells that differ from `Memory.blank`, addresses strictly rising. -/
abbrev Memory := List Host.Cell

/-- What a byte that nothing has written reads as. The spec gives no power-on value (DESIGN CHOICE, unsafe, log 6 for
co-processor memory and log 7 for the ROM; 95_test_vectors.md section 3 starts its programs the same way). -/
def Memory.blank : Byte := 0x00

/-- The canonical form: no listed cell is blank and addresses strictly rise. -/
def Memory.wf : Memory → Bool
  | [] => true
  | [c] => c.2 != Memory.blank
  | c :: d :: m => c.2 != Memory.blank && decide (c.1 < d.1) && Memory.wf (d :: m)

/-- The machine's state. -/
structure State where
  /-- The configuration (00_scope.md R6, R7). No step changes it. -/
  cfg : Config
  /-- `seq` (10_state.md R21). -/
  seq : SeqState
  /-- `cap_present` (R23). -/
  capPresent : Bool
  /-- `SB[0..3]` (R25). -/
  sb : StatusBlock
  /-- `REQ` (R26). -/
  req : Word
  /-- `CB[0..9]`, as its fields (R27). -/
  cb : ControlBlock
  /-- `TAG[0..1]` (R28). -/
  tag : Tag
  /-- `bank_sel` (R29). -/
  bankSel : Nat
  /-- `ind` (R31). -/
  ind : Indicator
  /-- `msg` (R31). -/
  msg : Message
  /-- `fault` (R20). -/
  fault : FaultReason
  /-- Co-processor memory (20_memory.md R50). -/
  mem : Memory
  /-- The co-processor's busy bit, set while it runs (10_state.md R24). -/
  cpBusy : Bool
  /-- The start address last given to the co-processor (40_supervisor.md R112; log 15). -/
  cpEntry : Nat
  /-- MODEL'S OWN: pending co-processor moves (log 11). -/
  cpScript : List CpMove
  /-- MODEL'S OWN: pending key bytes (log 11). -/
  keyScript : List Byte
  /-- MODEL'S OWN: the number of environment draws so far (log 11). -/
  drawn : Nat
  /-- MODEL'S OWN: the transactions and output events so far, oldest first (40_supervisor.md R138; log 16). -/
  trace : List Event
  deriving DecidableEq, Repr

/-- No reason: a range fault of the handler is the state FAULT, entered by `raiseFault`, and every step answers a next state
or a refusal (60_exceptions.md R205; log 8). Nothing raises this; safe. -/
inductive Fault where
  deriving DecidableEq, Repr

/-- Why the model has no run. -/
inductive Refusal where
  /-- Raised by an arm of exec whose instruction has no meaning yet; no arm does. Safe. -/
  | notModelled (mnemonic : String)
  /-- Raised by the PROBE_LOAD step when the configuration breaks a requirement of 70_reset_and_hazards.md R234, which says a
  model should check them before the first step (log 9). Safe. -/
  | configuration
  /-- Raised by the PROBE_CHECK step on a readback that would pass while the co-processor still runs: ENV_PROBE_DONE, which
  60_exceptions.md R217 and 93_implementation_defined.md U15 refuse a passing run without (log 12). Safe. -/
  | probeUnfinished
  /-- Raised by the CHECK_RESULT step and by the STORAGE meaning when the bytes read are no block, which happens only where
  SB_WORDS is not 4 or CB_LEN is not 10: the spec gives no layout of another length (30_encoding.md R80, R84, R94; log 33). Safe. -/
  | undecodable (e : DecodeError)
  /-- Raised by the service if a control block decoded to a status-block class; never happens (log 31). Safe. -/
  | notARequest
  deriving DecidableEq, Repr

/-- The state right after reset under configuration c (10_state.md R34, 70_reset_and_hazards.md R230-R232): the co-processor
is halted, nothing is listed in its memory. SB, REQ, CB and TAG are unspecified in R34: zero here (DESIGN CHOICE, log 5).
`bank_sel` has BANK_W bits, and R34 gives it BANK_RESET with no bound on that: a BANK_RESET of 2^BANK_W or more is taken
mod 2^BANK_W (DESIGN CHOICE, log 34). -/
def State.resetWith (c : Config) : State where
  cfg := c
  seq := .probeLoad
  capPresent := false
  sb := ⟨0, 0, 0, 0⟩
  req := 0
  cb := { opc := 0, err := 0, buf := 0, rlen := 0, retlen := 0, recNo := 0, x8 := 0, x9 := 0 }
  tag := ⟨0, 0⟩
  bankSel := c.bankReset % 2 ^ c.bankW
  ind := .none
  msg := .none
  fault := .none
  mem := []
  cpBusy := false
  cpEntry := 0
  cpScript := []
  keyScript := []
  drawn := 0
  trace := []

/-- The state right after reset, under the spec's example configuration (DESIGN CHOICE, log 3). -/
def State.reset : State := State.resetWith Config.ex

/-- The operator's power cycle, the only exit from a terminal state (10_state.md R22), is a reset (R230). It is no step of
the handler (log 24). -/
def State.powerCycle (s : State) : State := State.resetWith s.cfg

end Sys2Proof.Machine
end

