-- ==== Sys2Proof/Machine/Ops.lean ====
section
/-! DEFINITION. The named operations: single-field updates of State, memory, the interface transactions of 00_scope.md R10,
raising the handler's fault (60_exceptions.md R205), entering the terminal states (40_supervisor.md R128, R129), and ending a
service (R125, R126). Each transaction is recorded in the trace as it happens (20_memory.md R64). -/

namespace Sys2Proof.Machine

def State.setSeq (v : SeqState) (s : State) : State := { s with seq := v }
def State.setCapPresent (v : Bool) (s : State) : State := { s with capPresent := v }
def State.setSb (v : StatusBlock) (s : State) : State := { s with sb := v }
def State.setReq (v : Word) (s : State) : State := { s with req := v }
def State.setCb (v : ControlBlock) (s : State) : State := { s with cb := v }
def State.setTag (v : Tag) (s : State) : State := { s with tag := v }
def State.setBankSel (v : Nat) (s : State) : State := { s with bankSel := v }
def State.setInd (v : Indicator) (s : State) : State := { s with ind := v }
def State.setMsg (v : Message) (s : State) : State := { s with msg := v }
def State.setFault (v : FaultReason) (s : State) : State := { s with fault := v }
def State.setMem (v : Memory) (s : State) : State := { s with mem := v }
def State.setCpBusy (v : Bool) (s : State) : State := { s with cpBusy := v }
def State.setCpEntry (v : Nat) (s : State) : State := { s with cpEntry := v }
def State.setCpScript (v : List CpMove) (s : State) : State := { s with cpScript := v }
def State.setKeyScript (v : List Byte) (s : State) : State := { s with keyScript := v }
def State.setDrawn (v : Nat) (s : State) : State := { s with drawn := v }

/-- Record one transaction. -/
def State.record (e : Event) (s : State) : State := { s with trace := s.trace ++ [e] }

/-- The byte at an address. -/
def Memory.read : Memory → Nat → Byte
  | [], _ => Memory.blank
  | c :: m, a => if a = c.1 then c.2 else Memory.read m a

/-- Write one byte, keeping the canonical form. -/
def Memory.write : Memory → Nat → Byte → Memory
  | [], a, v => if v = Memory.blank then [] else [(a, v)]
  | c :: m, a, v =>
    if a < c.1 then (if v = Memory.blank then c :: m else (a, v) :: c :: m)
    else if a = c.1 then (if v = Memory.blank then m else (a, v) :: m)
    else c :: Memory.write m a v

/-- The n bytes at a, a+1, ..., in address order (00_scope.md R10). -/
def Memory.readBytes (m : Memory) (a : Nat) : Nat → List Byte
  | 0 => []
  | n + 1 => m.read a :: m.readBytes (a + 1) n

/-- Write bytes, the first at a, in address order (00_scope.md R10). -/
def Memory.writeBytes (m : Memory) (a : Nat) : List Byte → Memory
  | [] => m
  | v :: vs => (m.write a v).writeBytes (a + 1) vs

/-- The range `[a, a+n)` is in range: `a + n <= CP_MEM_SIZE`, in exact arithmetic (00_scope.md R11, 20_memory.md R57). -/
def inRange (s : State) (a n : Nat) : Bool := decide (a + n ≤ s.cfg.cpMemSize)

/-- `raise Fault(r)`: the ONE way an exception is taken (60_exceptions.md R205). The latch gets the reason, the sequencer
enters FAULT, and the step makes no further transaction. -/
def raiseFault (r : FaultReason) (s : State) : State := (s.setFault r).setSeq .fault

/-- `MemRead(a, n)`, then k on the bytes; out of range it raises CP_RANGE before any byte moves (R11). -/
def memRead (a n : Nat) (s : State) (k : List Byte → State → State) : State :=
  if inRange s a n then k (s.mem.readBytes a n) (s.record (.memRead a (s.mem.readBytes a n)))
  else raiseFault .cpRange s

/-- `MemRead(a, n)` where the bytes may allow no next state: k answers the outcome; out of range it raises CP_RANGE (R11). -/
def fetchBytes (a n : Nat) (s : State) (k : List Byte → State → Host.Outcome State Fault Refusal) :
    Host.Outcome State Fault Refusal :=
  if inRange s a n then k (s.mem.readBytes a n) (s.record (.memRead a (s.mem.readBytes a n)))
  else .next (raiseFault .cpRange s)

/-- `MemWrite(a, n, bytes)`, then k; out of range it raises CP_RANGE before any byte moves (R11). -/
def memWrite (a : Nat) (bytes : List Byte) (s : State) (k : State → State) : State :=
  if inRange s a bytes.length then k ((s.setMem (s.mem.writeBytes a bytes)).record (.memWrite a bytes))
  else raiseFault .cpRange s

/-- `SwitchBank(b)`: `bank_sel <- b`, then the interface event (00_scope.md R10). -/
def switchBank (b : Nat) (s : State) : State := (s.setBankSel b).record (.switchBank b)

/-- `ROM(bank, off)` (20_memory.md R50), for off below BANK_SIZE. With the document's constants no other offset is read (00_scope.md
R6, 20_memory.md R57, 42_storage_read.md R181); with constants that break RECS_PER_BANK * REC_SIZE <= BANK_SIZE, of which the spec
says nothing, an offset at or above BANK_SIZE reads on into the next bank's cells (DESIGN CHOICE, log 35). -/
def romByte (c : Config) (bank off : Nat) : Byte := Memory.read c.rom (bank * c.consts.bankSize + off)

/-- The n bytes `ROM(bank, off + i)` (20_memory.md R56). -/
def romBytes (c : Config) (bank off n : Nat) : List Byte := (List.range n).map fun i => romByte c bank (off + i)

/-- `RomRead(off, n)` through the active window, then k on the bytes (R56). It has no side effect (R58). -/
def romRead (off n : Nat) (s : State) (k : List Byte → State → State) : State :=
  k (romBytes s.cfg s.bankSel off n) (s.record (.romRead off n))

/-- `CpStart(a)`: the co-processor gets the start address and runs (40_supervisor.md R112, D15, D30). -/
def cpStart (a : Nat) (s : State) : State := ((s.setCpEntry a).setCpBusy true).record (.cpStart a)

/-- `CpContinue()`: the co-processor goes on from where it halted (40_supervisor.md R126, D15, D30). -/
def cpContinue (s : State) : State := (s.setCpBusy true).record .cpContinue

/-- `CpBusy()`: k on the busy bit; reading it changes nothing (20_memory.md R58). -/
def pollBusy (s : State) (k : Bool → State → State) : State := k s.cpBusy (s.record (.cpBusy s.cpBusy))

/-- `Emit(e)`: an output event sets its latch (40_supervisor.md R138). -/
def emit (e : Output) (s : State) : State :=
  match e with
  | .indSuccess => (s.setInd .success).record (.emit e)
  | .indFailure => (s.setInd .failure).record (.emit e)
  | .msgUnsupported => (s.setMsg .unsupported).record (.emit e)
  | .msgChecksumMismatch => (s.setMsg .checksumMismatch).record (.emit e)

/-- Entering HALT_FAILURE emits IND FAILURE once, in the same step (40_supervisor.md R128). -/
def enterHaltFailure (s : State) : State := (emit .indFailure s).setSeq .haltFailure

/-- Entering HALT_SUCCESS emits IND SUCCESS once, in the same step (40_supervisor.md R129). -/
def enterHaltSuccess (s : State) : State := (emit .indSuccess s).setSeq .haltSuccess

/-- The end of every service, whatever its outcome: `CpContinue`, then RUNNING (40_supervisor.md R125). It is the return from
a reported error to the requester (60_exceptions.md R207). -/
def resume (s : State) : State := (cpContinue s).setSeq .running

/-- `writeback()`: all ten latch bytes to `[REQ, REQ+10)`, then the end of the service (41_storage_service.md R158). -/
def writeBack (s : State) : State := memWrite s.req.toNat s.cb.bytes s resume

end Sys2Proof.Machine
end

