-- ==== Sys2Proof/Machine/Environment.lean ====
section
/-! DEFINITION. The environment's moves (60_exceptions.md R214, R217): the co-processor's moves between two handler steps
(40_supervisor.md R110) and the key source (R119). A move comes from the script in State, or, when that is empty, it is a free
value (log 11). -/

namespace Sys2Proof.Machine

/-- The co-processor's next move. -/
def nextCpMove (s : State) : CpMove :=
  match s.cpScript with
  | [] => Config.freeCpMove s.drawn
  | m :: _ => m

/-- The next key byte: any byte (40_supervisor.md R119, D24). -/
def nextKey (s : State) : Byte :=
  match s.keyScript with
  | [] => Config.freeKey s.drawn
  | k :: _ => k

/-- The co-processor's writes in order; an address outside co-processor memory names no byte and nothing is written there
(R214: it may write any co-processor memory; log 31). -/
def cpWrites (size : Nat) (m : Memory) : List (Nat × Byte) → Memory
  | [] => m
  | w :: ws => cpWrites size (if w.1 < size then m.write w.1 w.2 else m) ws

/-- What the co-processor does before a handler step: nothing while it is halted; while it runs, one move, which may end in
its halt, all its writes done first (R214, R217, 20_memory.md R65). -/
def cpTurn (s : State) : State :=
  if s.cpBusy then
    ((((s.setMem (cpWrites s.cfg.cpMemSize s.mem (nextCpMove s).writes)).setCpBusy (!(nextCpMove s).halts)).setCpScript
      s.cpScript.tail).setDrawn (s.drawn + 1))
  else s

/-- `PollKey()`, then k on the byte (40_supervisor.md R117, R119). -/
def pollKey (s : State) (k : Byte → State → State) : State :=
  k (nextKey s) (((s.setKeyScript s.keyScript.tail).setDrawn (s.drawn + 1)).record (.pollKey (nextKey s)))

end Sys2Proof.Machine
end

