-- ==== Sys2Proof/Machine/Operands.lean ====
section
/-! DEFINITION. The operand forms: the filename tag and its resolver (42_storage_read.md R171-R173), the ROM bank address
translator with its bounds checker (R174-R181, R189), and the control block's updated fields (R183, R184). -/

namespace Sys2Proof.Machine

/-- The tag of the two bytes read at the tag offset (R171). -/
def tagOfBytes : List Byte → Tag
  | [c0, c1] => ⟨c0, c1⟩
  | _ => ⟨0, 0⟩

/-- The two virtual files (00_scope.md R12). -/
inductive VirtualFile where
  | file1
  | file2
  deriving DecidableEq, Repr

/-- The tag resolver: TAG1 first, then TAG2, else no file; both bytes compared exactly (R172, R173, 30_encoding.md R99). -/
def resolveTag (c : Config) (t : Tag) : Option VirtualFile :=
  if t = c.consts.tag1 then some .file1
  else if t = c.tag2 then some .file2
  else none

/-- The first bank of a file (30_encoding.md R100). -/
def firstBank (c : Config) : VirtualFile → Nat
  | .file1 => c.b0
  | .file2 => c.b1

/-- The next file's first bank (30_encoding.md R100). -/
def nextBank (c : Config) : VirtualFile → Nat
  | .file1 => c.b1
  | .file2 => c.b2

/-- `TGT = (floor(rec / 126) + first) mod 2^BANK_W` (R175). A RECS_PER_BANK of 0 gives the quotient 0 (DESIGN CHOICE, log 35). -/
def targetBank (c : Config) (f : VirtualFile) (recNo : Nat) : Nat :=
  (recNo / c.consts.recsPerBank + firstBank c f) % 2 ^ c.bankW

/-- `OFF = (rec mod 126) * 128` (R181). A RECS_PER_BANK of 0 gives the remainder rec (DESIGN CHOICE, log 35). -/
def bankOffset (c : Config) (recNo : Nat) : Nat := (recNo % c.consts.recsPerBank) * c.consts.recSize

/-- The translator and bounds checker as one function: `none` is ERR_EOF (R179, R189). -/
def translateRecord (c : Config) (f : VirtualFile) (recNo : Nat) : Option (Nat × Nat) :=
  if targetBank c f recNo ≥ nextBank c f ∨ targetBank c f recNo < c.b0 then none
  else some (targetBank c f recNo, bankOffset c recNo)

/-- The host address of a window byte, `PAGE_BASE + OFF` (R181); informational (20_memory.md R50). -/
def hostAddress (c : Config) (off : Nat) : Nat := c.pageBase + off

/-- The length test: `RLEN` equals the record size (41_storage_service.md R154, 30_encoding.md R87). -/
def lengthOk (k : Consts) (b : ControlBlock) : Bool := b.rlen.toNat == k.recSize

/-- The control block after a transfer: `REC` plus one mod 2^16, `RETLEN` the record size (R183, R184). The length test lets no
REC_SIZE above 255 come here (log 35). -/
def transferred (k : Consts) (b : ControlBlock) : ControlBlock :=
  { b with recNo := b.recNo + 1, retlen := BitVec.ofNat 8 k.recSize }

end Sys2Proof.Machine
end

