-- ==== Sys2Proof/Machine/Flags.lean ====
section
/-! DEFINITION. Every flag the spec gives: the error flags ORed into `CB[1]` (30_encoding.md R96, R97), the capability flag
(10_state.md R23) and the checksum comparison (30_encoding.md R83). -/

namespace Sys2Proof.Machine

/-- `CB[1] <- CB[1] | e` on a block (R97). -/
def orErr (e : Byte) (b : ControlBlock) : ControlBlock := { b with err := b.err ||| e }

/-- `flag(e)` on the latch (R97): the OR is always made (D13). -/
def flag (e : Byte) (s : State) : State := s.setCb (orErr e s.cb)

/-- The capability is present exactly when both readback bytes are zero (40_supervisor.md R113). -/
def capabilityReadback (r : List Byte) : Bool := r == [0x00, 0x00]

/-- The checksum-mismatch sub-case of ERROR: a 16-bit compare (30_encoding.md R83). -/
def checksumMismatch (computed expected : Word) : Bool := computed != expected

/-- OPEN's attribute test: the whole byte equals OPEN_ATTR (41_storage_service.md R156). -/
def attrAccepted (c : Config) (b : ControlBlock) : Bool := b.err == c.openAttr

end Sys2Proof.Machine
end

