-- ==== Sys2Proof/Machine/Service.lean ====
section
/-! DEFINITION. The storage service's shared parts and the meanings of CLOSE, OPEN and INVALID (41_storage_service.md
R150-R158). A meaning starts from the ten bytes already read at REQ (R151): it latches its block, makes its tests in the order
of R152, and ends with `resume` (CpContinue, RUNNING; 40_supervisor.md R125), as the end of every service does (log 28). -/

namespace Sys2Proof.Machine

/-- The latch takes the control block read at REQ (R151). -/
def latchRequest (opc : Byte) (f : RequestFields) (s : State) : State := s.setCb (ControlBlock.ofFields opc f)

/-- Report an error: OR the flag, write the block back, end (60_exceptions.md R202). -/
def reject (e : Byte) (s : State) : State := writeBack (flag e s)

/-- The length check, applied to every opcode but CLOSE, then k (R154). -/
def checkLength (s : State) (k : State → State) : State :=
  if lengthOk s.cfg.consts s.cb then k s else reject s.cfg.consts.errBadAttr s

/-- CLOSE: no flag, no write-back, no bank switch, no transfer; any length (R153, D11). -/
def execCloseReq (f : RequestFields) (s : State) : Host.Outcome State Fault Refusal :=
  .next (resume (latchRequest s.cfg.consts.opClose f s))

/-- OPEN: the attribute byte must be OPEN_ATTR, else ERR_BADATTR; write-back either way (R156). -/
def execOpenReq (f : RequestFields) (s : State) : Host.Outcome State Fault Refusal :=
  .next (checkLength (latchRequest s.cfg.consts.opOpen f s) fun s =>
    if attrAccepted s.cfg s.cb then writeBack s else reject s.cfg.consts.errBadAttr s)

/-- INVALID: ERR_BADATTR and write-back; no trap (R157, 30_encoding.md R95). -/
def execInvalidReq (opc : Byte) (f : RequestFields) (s : State) : Host.Outcome State Fault Refusal :=
  .next (checkLength (latchRequest opc f s) fun s => reject s.cfg.consts.errBadAttr s)

end Sys2Proof.Machine
end

