-- ==== Sys2Proof/Machine/Read.lean ====
section
/-! DEFINITION. READ, the one opcode that moves data (42_storage_read.md R170-R188), its transactions in the order of R186. -/

namespace Sys2Proof.Machine

/-- Steps 6 to 11: switch the bank, read the record through the window, write it to the buffer, update REC and RETLEN, and
write the block back (R180-R184). The bank is switched before the buffer's range is tested (R188). -/
def transferRecord (bank off : Nat) (s : State) : State :=
  romRead off s.cfg.consts.recSize (switchBank bank s) fun data s =>
    memWrite s.cb.buf.toNat data s fun s =>
      writeBack (s.setCb (transferred s.cfg.consts s.cb))

/-- Steps 3 to 5 once the tag has a file: translate the record number and check its bank (R174-R179). -/
def readFromFile (file : VirtualFile) (s : State) : State :=
  match translateRecord s.cfg file s.cb.recNo.toNat with
  | none => reject s.cfg.consts.errEof s
  | some (bank, off) => transferRecord bank off s

/-- Step 2: the tag selects the file, or ERR_BADNAME (R172). -/
def readByTag (s : State) : State :=
  match resolveTag s.cfg s.tag with
  | none => reject s.cfg.consts.errBadName s
  | some file => readFromFile file s

/-- Step 1: the tag's two bytes are read first, before any test (R171). -/
def readTag (s : State) : State :=
  memRead (s.req.toNat + s.cfg.consts.tagOff) 2 s fun bytes s => readByTag (s.setTag (tagOfBytes bytes))

/-- READ (R170), after the length check (41_storage_service.md R154). -/
def execReadReq (f : RequestFields) (s : State) : Host.Outcome State Fault Refusal :=
  .next (checkLength (latchRequest s.cfg.consts.opRead f s) readTag)

end Sys2Proof.Machine
end

