-- ==== Sys2Proof/Machine/StatusDispatch.lean ====
section
/-! DEFINITION. The meanings of the three status-block classes: ERROR, STORAGE and SUCCESS (40_supervisor.md R122-R129). -/

namespace Sys2Proof.Machine

/-- SUCCESS: HALT_SUCCESS; the checksums are not compared (R127, D27). -/
def execSuccess (_computed _expected : Word) (s : State) : Host.Outcome State Fault Refusal :=
  .next (enterHaltSuccess s)

/-- ERROR: the mismatch message when the checksums differ, and HALT_FAILURE either way; the request address is ignored
(R122, 60_exceptions.md R204). -/
def execError (_result _request computed expected : Word) (s : State) : Host.Outcome State Fault Refusal :=
  .next (enterHaltFailure (if checksumMismatch computed expected then emit .msgChecksumMismatch s else s))

/-- The service's dispatch on the decoded request (41_storage_service.md R150, R152). A control block never decodes to a
status class (log 31). -/
def runRequest (i : Instr) (s : State) : Host.Outcome State Fault Refusal :=
  match i with
  | .openReq f => execOpenReq f s
  | .closeReq f => execCloseReq f s
  | .readReq f => execReadReq f s
  | .invalidReq opc f => execInvalidReq opc f s
  | .success _ _ => .refused .notARequest
  | .storage _ _ _ => .refused .notARequest
  | .error _ _ _ _ => .refused .notARequest

/-- STORAGE: `REQ <- SB[1]`, the service at REQ, which reads the control block (41_storage_service.md R151) and ends with
CpContinue and RUNNING (R125). -/
def execStorage (request _computed _expected : Word) (s : State) : Host.Outcome State Fault Refusal :=
  fetchBytes request.toNat s.cfg.consts.cbLen (s.setReq request) fun bytes s =>
    match decode s.cfg.consts .control bytes with
    | .error e => .refused (.undecodable e)
    | .ok i => runRequest i s

end Sys2Proof.Machine
end

