-- ==== Sys2Proof/Machine/Sequencer.lean ====
section
/-! DEFINITION. The sequencer states that fetch, probe, upload and wait (40_supervisor.md R111-R120), and which instruction a
DISPATCH state runs. -/

namespace Sys2Proof.Machine

/-- PROBE_LOAD: upload the probe payload and trigger it (R111). The configuration is checked here, before the first step, as
70_reset_and_hazards.md R234 asks of a model (log 9). -/
def stepProbeLoad (s : State) : Host.Outcome State Fault Refusal :=
  if s.cfg.wf then
    .next (memWrite s.cfg.progStart s.cfg.probePayload s fun s => (cpStart s.cfg.progStart s).setSeq .probeCheck)
  else .refused .configuration

/-- The run keeps ENV_PROBE_DONE at the readback: the probe payload has run to its halt (60_exceptions.md R217, D17). -/
def probeDone (s : State) : Bool := !s.cpBusy

/-- PROBE_CHECK: read back two bytes and decide (R113). There is no busy poll before it (20_memory.md R66), and the readback may
be any two bytes; a run that would pass while the probe payload still runs breaks ENV_PROBE_DONE and is refused
(93_implementation_defined.md U15; log 12). -/
def stepProbeCheck (s : State) : Host.Outcome State Fault Refusal :=
  fetchBytes s.cfg.progStart 2 s fun r s =>
    if capabilityReadback r then
      if probeDone s then .next ((s.setCapPresent true).setSeq .upload) else .refused .probeUnfinished
    else .next (enterHaltFailure (emit .msgUnsupported (s.setCapPresent false)))

/-- UPLOAD: upload the update payload and start it (R115, R116). No run reaches it with the co-processor still running, since
PROBE_CHECK refuses that (20_memory.md R63, 70_reset_and_hazards.md R232; log 12); in a state with the busy bit set, which no run
reaches, the payload is written and the co-processor restarted all the same (DESIGN CHOICE, log 31). -/
def stepUpload (s : State) : Host.Outcome State Fault Refusal :=
  .next (memWrite s.cfg.progStart s.cfg.updatePayload s fun s => (cpStart s.cfg.progStart s).setSeq .running)

/-- Forward one key byte to INPUT_ADDR, then k (R117). -/
def forwardKey (s : State) (k : State → State) : State :=
  pollKey s fun key s => memWrite s.cfg.inputAddr [key] s k

/-- RUNNING: forward a key while the co-processor is busy, in the configured order (R117, R118). -/
def stepRunning (s : State) : Host.Outcome State Fault Refusal :=
  .next (match s.cfg.keyOrder with
    | .checkFirst => pollBusy s fun b s =>
        if b then forwardKey s fun s => s.setSeq .running else s.setSeq .checkResult
    | .writeFirst => forwardKey s fun s =>
        pollBusy s fun b s => if b then s.setSeq .running else s.setSeq .checkResult)

/-- The DISPATCH state of an instruction's class (30_encoding.md R82); a control-block request runs inside DISPATCH_STORAGE. -/
def dispatchSeq : Instr → SeqState
  | .success _ _ => .dispatchSuccess
  | .error _ _ _ _ => .dispatchError
  | .storage _ _ _ => .dispatchStorage
  | .openReq _ => .dispatchStorage
  | .closeReq _ => .dispatchStorage
  | .readReq _ => .dispatchStorage
  | .invalidReq _ _ => .dispatchStorage

/-- CHECK_RESULT: read and latch the status block, then go to its class (R120). Bytes that are no status block occur only where
SB_WORDS is not 4 (log 33). -/
def stepCheckResult (s : State) : Host.Outcome State Fault Refusal :=
  fetchBytes s.cfg.statusAddr (2 * s.cfg.consts.sbWords) s fun bytes s =>
    match StatusBlock.ofBytes bytes with
    | none => .refused (.undecodable .statusBlockLength)
    | some b => .next ((s.setSb b).setSeq (dispatchSeq b.dispatch))

/-- The instruction DISPATCH_ERROR runs: ERROR on the latched words (R122). -/
def latchedError (s : State) : Instr := .error s.sb.result s.sb.request s.sb.computed s.sb.expected

/-- The instruction DISPATCH_STORAGE runs: STORAGE on the latched words (R125). -/
def latchedStorage (s : State) : Instr := .storage s.sb.request s.sb.computed s.sb.expected

/-- The instruction DISPATCH_SUCCESS runs: SUCCESS on the latched words (R127). -/
def latchedSuccess (s : State) : Instr := .success s.sb.computed s.sb.expected

/-- The co-processor address `withFetchWord` puts a control block at: the one the spec's vectors use (95_test_vectors.md
section 0; log 26). -/
def fetchAddress : Word := 0x2000

end Sys2Proof.Machine
end

