-- ==== Sys2Proof/Machine/Dispatch.lean ====
section
/-! DEFINITION. One arm per instruction of the opcode table. -/

namespace Sys2Proof.Machine

def exec (i : Instr) (s : State) : Host.Outcome State Fault Refusal :=
  match i with
  | .openReq f => Sys2Proof.Machine.execOpenReq f s
  | .closeReq f => Sys2Proof.Machine.execCloseReq f s
  | .readReq f => Sys2Proof.Machine.execReadReq f s
  | .invalidReq opc f => Sys2Proof.Machine.execInvalidReq opc f s
  | .success computed expected => Sys2Proof.Machine.execSuccess computed expected s
  | .storage request computed expected => Sys2Proof.Machine.execStorage request computed expected s
  | .error result request computed expected => Sys2Proof.Machine.execError result request computed expected s

end Sys2Proof.Machine
end

