-- ==== Sys2Proof/Machine/Step.lean ====
section
/-! DEFINITION. One step: the co-processor's move if it runs (40_supervisor.md R110), then the handler step of the sequencer
state (R131). -/

namespace Sys2Proof.Machine

/-- One handler step. A terminal state makes no transaction and never changes (10_state.md R22). -/
def handlerStep (s : State) : Host.Outcome State Fault Refusal :=
  match s.seq with
  | .probeLoad => stepProbeLoad s
  | .probeCheck => stepProbeCheck s
  | .upload => stepUpload s
  | .running => stepRunning s
  | .checkResult => stepCheckResult s
  | .dispatchError => exec (latchedError s) s
  | .dispatchStorage => exec (latchedStorage s) s
  | .dispatchSuccess => exec (latchedSuccess s) s
  | .haltSuccess => .next s
  | .haltFailure => .next s
  | .fault => .next s

/-- One step: the environment's move between two handler steps, then the handler step (R110; log 1). -/
def step (s : State) : Host.Outcome State Fault Refusal := handlerStep (cpTurn s)

/-- s about to run the instruction of a table row's value (log 26). A control-block row: the co-processor is halted, the status
latch holds a STORAGE request at `fetchAddress`, and the ten bytes stand there. A status-block row: the status latch holds the
value and the sequencer is in its class's DISPATCH state. -/
def State.withFetchWord (s : State) (nbits w : Nat) : State :=
  if nbits = 8 then
    { s with seq := .dispatchStorage, cpBusy := false, sb := ⟨0, fetchAddress, 0, 0⟩,
             mem := s.mem.writeBytes fetchAddress.toNat (tableControlBytes w) }
  else if nbits = 32 then
    { s with seq := dispatchSeq (tableStatusBlock w).dispatch, cpBusy := false, sb := tableStatusBlock w }
  else s

end Sys2Proof.Machine
end

