-- ==== Sys2Proof/Safety.lean ====
section
/-! DEFINITION. What a safe run is, in the terms the statements use: the state that went wrong (60_exceptions.md R205), the
terminal states (10_state.md R22), the successors of each sequencer state (40_supervisor.md R131), the transactions the handler may
make (20_memory.md R51), and the invariant every step keeps. -/

namespace Sys2Proof.Machine

/-- A run that reaches FAULT is a run that went wrong (R205). -/
def State.wentWrong (s : State) : Bool := s.seq == .fault

/-- The terminal sequencer states (10_state.md R22). -/
def SeqState.terminal (q : SeqState) : Bool := q == .haltSuccess || q == .haltFailure || q == .fault

/-- Where each sequencer state may go in one step: the `to` column of the table of 40_supervisor.md R131, with FAULT for a
state that makes a co-processor-memory access. -/
def SeqState.successors : SeqState → List SeqState
  | .probeLoad => [.probeCheck, .fault]
  | .probeCheck => [.upload, .haltFailure, .fault]
  | .upload => [.running, .fault]
  | .running => [.running, .checkResult, .fault]
  | .checkResult => [.dispatchError, .dispatchStorage, .dispatchSuccess, .fault]
  | .dispatchError => [.haltFailure]
  | .dispatchStorage => [.running, .fault]
  | .dispatchSuccess => [.haltSuccess]
  | .haltSuccess => [.haltSuccess]
  | .haltFailure => [.haltFailure]
  | .fault => [.fault]

/-- Every constant of 00_scope.md R6 has the document's value in this state's configuration. -/
def State.documented (s : State) : Prop := s.cfg.consts = Consts.document

/-- The sequencer states that are reached only after the probe has passed (40_supervisor.md R115, 70_reset_and_hazards.md
R233). -/
def SeqState.afterProbe (q : SeqState) : Bool :=
  q == .upload || q == .running || q == .checkResult || q == .dispatchError || q == .dispatchStorage
    || q == .dispatchSuccess || q == .haltSuccess

/-- The sequencer states in which the co-processor is halted (40_supervisor.md R117, 20_memory.md R63, R232; for UPLOAD,
60_exceptions.md R217 and log 12). -/
def SeqState.coprocessorHalted (q : SeqState) : Bool :=
  q == .probeLoad || q == .upload || q == .checkResult || q == .dispatchError || q == .dispatchStorage || q == .dispatchSuccess
    || q == .haltSuccess

/-- A recorded access to co-processor memory lies inside it (20_memory.md R57); the other events make none. -/
def Event.withinMemory (size : Nat) : Event → Bool
  | .memRead a bytes => decide (a + bytes.length ≤ size)
  | .memWrite a bytes => decide (a + bytes.length ≤ size)
  | .switchBank _ => true
  | .romRead _ _ => true
  | .cpStart _ => true
  | .cpContinue => true
  | .cpBusy _ => true
  | .pollKey _ => true
  | .emit _ => true

/-- The control block whose bytes stand at an address (30_encoding.md R84). -/
def controlBlockAt (m : Memory) (a : Nat) : ControlBlock :=
  { opc := m.read a, err := m.read (a + 1), buf := be16 (m.read (a + 2)) (m.read (a + 3)), rlen := m.read (a + 4),
    retlen := m.read (a + 5), recNo := be16 (m.read (a + 6)) (m.read (a + 7)), x8 := m.read (a + 8), x9 := m.read (a + 9) }

/-- The status block whose bytes stand at an address (30_encoding.md R80). -/
def statusBlockAt (m : Memory) (a : Nat) : StatusBlock :=
  ⟨be16 (m.read a) (m.read (a + 1)), be16 (m.read (a + 2)) (m.read (a + 3)), be16 (m.read (a + 4)) (m.read (a + 5)),
    be16 (m.read (a + 6)) (m.read (a + 7))⟩

/-- The tag whose bytes stand at an address (30_encoding.md R99). -/
def tagAt (m : Memory) (a : Nat) : Tag := ⟨m.read a, m.read (a + 1)⟩

/-- s after a service that wrote block b back and ended (41_storage_service.md R158, 40_supervisor.md R125), with nothing else
changed. -/
def writtenBack (b : ControlBlock) (s : State) : State :=
  { s with cb := b, mem := s.mem.writeBytes s.req.toNat b.bytes, cpBusy := true, seq := .running,
           trace := s.trace ++ [.memWrite s.req.toNat b.bytes, .cpContinue] }

/-- s after a READ has read its tag (42_storage_read.md R171), with nothing else changed. -/
def tagRead (s : State) : State :=
  { s with tag := tagAt s.mem (s.req.toNat + 19), trace := s.trace ++ [.memRead (s.req.toNat + 19)
      (s.mem.readBytes (s.req.toNat + 19) 2)] }

/-- The bank and offset a READ with fields f transfers from, if it transfers: the length, tag and bounds tests of
42_storage_read.md R170 in the meaning's own functions. -/
def readTarget (f : RequestFields) (s : State) : Option (Nat × Nat) :=
  if lengthOk s.cfg.consts (ControlBlock.ofFields s.cfg.consts.opRead f) then
    (resolveTag s.cfg (tagOfBytes (s.mem.readBytes (s.req.toNat + s.cfg.consts.tagOff) 2))).bind
      fun file => translateRecord s.cfg file f.recNo.toNat
  else none

/-- Nothing a service leaves alone has changed from s to t: the configuration, the latches of the sequencer, the outputs and
the environment's inputs (10_state.md R23, R25, R26, R31). -/
def serviceKeeps (s t : State) : Prop :=
  t.cfg = s.cfg ∧ t.capPresent = s.capPresent ∧ t.sb = s.sb ∧ t.req = s.req ∧ t.ind = s.ind ∧ t.msg = s.msg
    ∧ t.cpEntry = s.cpEntry ∧ t.cpScript = s.cpScript ∧ t.keyScript = s.keyScript ∧ t.drawn = s.drawn
    ∧ (t.seq ≠ .fault → t.fault = s.fault)

/-- The invariant of the machine. -/
structure MachineInv (s : State) : Prop where
  /-- Co-processor memory is in canonical form. -/
  memWf : Memory.wf s.mem = true
  /-- Every listed byte lies inside co-processor memory (20_memory.md R50). -/
  memInside : ∀ c ∈ s.mem, c.1 < s.cfg.cpMemSize
  /-- Every recorded access lay inside co-processor memory (00_scope.md R11). -/
  traceInside : ∀ e ∈ s.trace, e.withinMemory s.cfg.cpMemSize = true
  /-- The configuration meets 70_reset_and_hazards.md R234 once the first step is past: PROBE_LOAD refuses any other (log 9). -/
  cfgWf : s.seq ≠ .probeLoad → s.cfg.wf = true
  /-- The fault latch tells FAULT (60_exceptions.md R205). -/
  faultLatch : s.fault = .cpRange ↔ s.seq = .fault
  /-- IND SUCCESS has been shown exactly in HALT_SUCCESS (40_supervisor.md R129). -/
  indSuccess : s.ind = .success ↔ s.seq = .haltSuccess
  /-- IND FAILURE has been shown exactly in HALT_FAILURE (R128). -/
  indFailure : s.ind = .failure ↔ s.seq = .haltFailure
  /-- A message is shown only in HALT_FAILURE (R113, R122). -/
  msgOnlyFailure : s.msg ≠ .none → s.seq = .haltFailure
  /-- The unsupported message means the probe failed (R113). -/
  msgUnsupported : s.msg = .unsupported → s.capPresent = false
  /-- The mismatch message means a reported failure with differing checksums (R122). -/
  msgMismatch : s.msg = .checksumMismatch → s.capPresent = true ∧ s.sb.result ≠ 0 ∧ s.sb.computed ≠ s.sb.expected
  /-- Nothing is uploaded or supervised before the probe has passed (R115, R233). -/
  probePassed : s.seq.afterProbe = true → s.capPresent = true
  /-- Where the handler reads or serves, the co-processor is halted (20_memory.md R63): at reset by log 22, in UPLOAD by log 12. -/
  halted : s.seq.coprocessorHalted = true → s.cpBusy = false
  /-- A DISPATCH state holds a status block of its class (30_encoding.md R82). -/
  classError : s.seq = .dispatchError → s.sb.result ≠ 0
  classStorage : s.seq = .dispatchStorage → s.sb.result = 0 ∧ s.sb.request ≠ 0
  classSuccess : s.seq = .dispatchSuccess → s.sb.result = 0 ∧ s.sb.request = 0
  /-- The selected bank is the reset one, taken mod 2^BANK_W (log 34), or lies in one of the two files (20_memory.md R60, R62). -/
  bank : s.bankSel = s.cfg.bankReset % 2 ^ s.cfg.bankW ∨ (s.cfg.b0 ≤ s.bankSel ∧ s.bankSel < s.cfg.b2)

/-- The bank and offset that the READ requested in state s transfers from, if s's request is a READ that transfers: the row
"READ, in bounds" of 20_memory.md R51. -/
def requestedRead (s : State) : Option (Nat × Nat) :=
  if (controlBlockAt s.mem s.sb.request.toNat).opc = s.cfg.consts.opRead then
    readTarget (controlBlockAt s.mem s.sb.request.toNat).toRequestFields { s with req := s.sb.request }
  else none

/-- The transactions the handler may make in state s, with the addresses, lengths and bytes the spec gives them: the accesses to
co-processor memory and to the ROM of 20_memory.md R51, and the other transactions of the table of 40_supervisor.md R131. The
service's accesses go by the control block at the request address. -/
def accessAllowed (s : State) : Event → Prop
  | .memRead a bytes =>
    (s.seq = .probeCheck ∧ a = s.cfg.progStart ∧ bytes.length = 2)
      ∨ (s.seq = .checkResult ∧ a = s.cfg.statusAddr ∧ bytes.length = 8)
      ∨ (s.seq = .dispatchStorage ∧ a = s.sb.request.toNat ∧ bytes.length = 10)
      ∨ (s.seq = .dispatchStorage ∧ a = s.sb.request.toNat + 19 ∧ bytes.length = 2
          ∧ (controlBlockAt s.mem s.sb.request.toNat).opc = 0x02 ∧ (controlBlockAt s.mem s.sb.request.toNat).rlen = 0x80)
  | .memWrite a bytes =>
    (s.seq = .probeLoad ∧ a = s.cfg.progStart ∧ bytes = s.cfg.probePayload)
      ∨ (s.seq = .upload ∧ a = s.cfg.progStart ∧ bytes = s.cfg.updatePayload)
      ∨ (s.seq = .running ∧ a = s.cfg.inputAddr ∧ bytes.length = 1)
      ∨ (s.seq = .dispatchStorage ∧ a = s.sb.request.toNat ∧ bytes.length = 10
          ∧ (controlBlockAt s.mem s.sb.request.toNat).opc ≠ 0x01)
      ∨ (s.seq = .dispatchStorage ∧ a = (controlBlockAt s.mem s.sb.request.toNat).buf.toNat
          ∧ ∃ bank off, requestedRead s = some (bank, off) ∧ bytes = romBytes s.cfg bank off 128)
  | .switchBank b => s.seq = .dispatchStorage ∧ ∃ off, requestedRead s = some (b, off)
  | .romRead off n => s.seq = .dispatchStorage ∧ n = 128 ∧ ∃ bank, requestedRead s = some (bank, off)
  | .cpStart a => (s.seq = .probeLoad ∨ s.seq = .upload) ∧ a = s.cfg.progStart
  | .cpContinue => s.seq = .dispatchStorage
  | .cpBusy v => s.seq = .running ∧ v = s.cpBusy
  | .pollKey k => s.seq = .running ∧ k = nextKey s
  | .emit o =>
    (s.seq = .probeCheck ∧ (o = .msgUnsupported ∨ o = .indFailure))
      ∨ (s.seq = .dispatchError ∧ (o = .msgChecksumMismatch ∨ o = .indFailure))
      ∨ (s.seq = .dispatchSuccess ∧ o = .indSuccess)

end Sys2Proof.Machine
end

