-- ==== Sys2Proof/Certificates/Slice0/Obligations.lean ====
section
/-! DEFINITION. The statements about the model for the provers. Each docstring names the rule of spec/ it formalises, or, for
what is the model's own choice, the log entry. `State.documented` says that the document's constants (00_scope.md R6) have the
document's values. -/

open Sys2Proof Sys2Proof.Machine

/-! ## Encoding -/

/-- Blocks written out byte by byte from the layouts of 30_encoding.md R80 and R84 decode to the instructions they stand for
(95_test_vectors.md V-R2, V-C2, V-O6, V-I1, V-S2, V-S6, V-S5). -/
def Obligations.DecodeOfWrittenOutBlocks : Prop :=
  decode .document .control [0x02, 0x00, 0x10, 0x00, 0x80, 0x00, 0x00, 0x7E, 0x00, 0x00]
      = .ok (.readReq ⟨0x00, 0x1000, 0x80, 0x00, 0x007E, 0x00, 0x00⟩)
  ∧ decode .document .control [0x01, 0xA0, 0x00, 0x00, 0x00, 0x33, 0x00, 0x05, 0x99, 0x00]
      = .ok (.closeReq ⟨0xA0, 0x0000, 0x00, 0x33, 0x0005, 0x99, 0x00⟩)
  ∧ decode .document .control [0x00, 0x5A, 0x00, 0x00, 0x80, 0x11, 0x12, 0x34, 0xAB, 0xCD]
      = .ok (.openReq ⟨0x5A, 0x0000, 0x80, 0x11, 0x1234, 0xAB, 0xCD⟩)
  ∧ decode .document .control [0x07, 0x01, 0x00, 0x00, 0x80, 0x00, 0x00, 0x00, 0x00, 0x00]
      = .ok (.invalidReq 0x07 ⟨0x01, 0x0000, 0x80, 0x00, 0x0000, 0x00, 0x00⟩)
  ∧ decode .document .status [0x00, 0x00, 0x20, 0x00, 0x12, 0x34, 0x12, 0x34] = .ok (.storage 0x2000 0x1234 0x1234)
  ∧ decode .document .status [0x00, 0x01, 0x00, 0x00, 0xBE, 0xEF, 0xBE, 0xEE] = .ok (.error 0x0001 0x0000 0xBEEF 0xBEEE)
  ∧ decode .document .status [0x00, 0x00, 0x00, 0x00, 0x12, 0x34, 0x56, 0x78] = .ok (.success 0x1234 0x5678)

/-- Decoding an encoded well-formed instruction gives it back, with every operand at every value (30_encoding.md R80-R86). -/
def Obligations.DecodeAfterEncode : Prop :=
  ∀ (k : Consts) (i : Instr), k.opcodesDistinct = true → i.wf k = true → decode k i.format (encode k i) = .ok i

/-- Whatever decodes is well formed, of the format it was read as, and encodes to the bytes it was read from. -/
def Obligations.EncodeAfterDecode : Prop :=
  ∀ (k : Consts) (fmt : BlockFormat) (bs : List Byte) (i : Instr), decode k fmt bs = .ok i →
    i.format = fmt ∧ i.wf k = true ∧ encode k i = bs

/-- The opcode decoder is total: ten bytes always are the request whose class the opcode byte names (30_encoding.md R94). -/
def Obligations.OpcodeDecodeTotal : Prop :=
  ∀ bs : List Byte, bs.length = 10 → ∃ f : RequestFields,
    decode .document .control bs = .ok (
      if bs[0]? = some 0x01 then .closeReq f
      else if bs[0]? = some 0x02 then .readReq f
      else if bs[0]? = some 0x00 then .openReq f
      else .invalidReq (bs[0]?.getD 0) f)

/-! ## Steps run decoded instructions -/

/-- In DISPATCH_STORAGE the step is exec of the request that the ten bytes at SB[1] decode to, after REQ has taken SB[1] and
the read has been recorded (40_supervisor.md R125, 41_storage_service.md R151). CB_LEN is 10 wherever the bytes decode. The
co-processor is halted there (`MachineInv.halted`). -/
def Obligations.StepRunsControlBlock : Prop :=
  ∀ (s : State) (i : Instr), s.seq = .dispatchStorage → s.cpBusy = false →
    s.sb.request.toNat + s.cfg.consts.cbLen ≤ s.cfg.cpMemSize →
    decode s.cfg.consts .control (s.mem.readBytes s.sb.request.toNat s.cfg.consts.cbLen) = .ok i →
    step s = exec i { s with
      req := s.sb.request
      trace := s.trace ++ [.memRead s.sb.request.toNat (s.mem.readBytes s.sb.request.toNat s.cfg.consts.cbLen)] }

/-- In CHECK_RESULT the step latches the status block and enters the DISPATCH state of the instruction its eight bytes decode
to, and the next step is exec of that instruction (40_supervisor.md R120-R127). SB_WORDS is 4 wherever the bytes decode. -/
def Obligations.StepRunsStatusBlock : Prop :=
  ∀ (s : State) (i : Instr), s.seq = .checkResult → s.cpBusy = false →
    s.cfg.statusAddr + 2 * s.cfg.consts.sbWords ≤ s.cfg.cpMemSize →
    decode s.cfg.consts .status (s.mem.readBytes s.cfg.statusAddr (2 * s.cfg.consts.sbWords)) = .ok i →
    ∃ t, step s = .next t ∧ t.seq = dispatchSeq i ∧ t.sb = statusBlockAt s.mem s.cfg.statusAddr ∧ t.mem = s.mem
      ∧ step t = exec i t

/-! ## Reset, invariant, whole-machine rules -/

/-- What reset leaves, for every configuration: the values of 10_state.md R34, the halted co-processor of 70_reset_and_hazards.md
R232, and that a power cycle is a reset (R230). The spec marks these as its decisions D19 and D20; the model's choices are that the
co-processor is halted (log 22) and that the power cycle is no step (log 24). A BANK_RESET that is no bank number is log 34 and is
not stated. -/
def Obligations.ResetState : Prop :=
  (∀ c : Config,
    (State.resetWith c).seq = .probeLoad ∧ (State.resetWith c).capPresent = false
    ∧ (c.bankReset < 2 ^ c.bankW → (State.resetWith c).bankSel = c.bankReset)
    ∧ (State.resetWith c).ind = .none ∧ (State.resetWith c).msg = .none ∧ (State.resetWith c).fault = .none
    ∧ (State.resetWith c).cpBusy = false ∧ (State.resetWith c).cfg = c)
  ∧ ∀ s : State, s.powerCycle = State.resetWith s.cfg

/-- The invariant holds at reset under every configuration, and at the model's State.reset (10_state.md R34, 70_reset_and_hazards.md
R231, R232). The model's choices in it: a BANK_RESET that is no bank number is taken mod 2^BANK_W (`MachineInv.bank`, log 34), the
co-processor is halted at reset (`MachineInv.halted`, log 22), State.reset's configuration (log 3) and its blank memory (log 6). -/
def Obligations.InvariantAtReset : Prop :=
  (∀ c : Config, MachineInv (State.resetWith c)) ∧ MachineInv State.reset

/-- Every step keeps the invariant, from any state that has it. Three clauses rest on the model's choices: that the configuration
meets 70_reset_and_hazards.md R234 past PROBE_LOAD, on the refusal there (`MachineInv.cfgWf`, log 9); that the co-processor is halted
in UPLOAD, on PROBE_CHECK's refusal of a pass without ENV_PROBE_DONE, 60_exceptions.md R217 (`MachineInv.halted`, log 12); that the
bank is BANK_RESET mod 2^BANK_W or a file's (`MachineInv.bank`, log 34). -/
def Obligations.InvariantKept : Prop :=
  ∀ s t : State, MachineInv s → step s = .next t → MachineInv t

/-- Every step goes where the table of 40_supervisor.md R131 lets its state go. -/
def Obligations.TransitionsOfTable : Prop :=
  ∀ s t : State, step s = .next t → t.seq ∈ s.seq.successors

/-- Every step answers a next state, but for four refusals by name, which are the model's: PROBE_LOAD under a configuration that
70_reset_and_hazards.md R234 excludes (log 9), a probe that would pass while its payload still runs (ENV_PROBE_DONE, log 12), and a
status block or a control block whose length SB_WORDS or CB_LEN takes from the layouts (log 33). -/
def Obligations.EveryStepAnswers : Prop :=
  ∀ s : State,
    (s.seq = .probeLoad ∧ s.cfg.wf = false ∧ step s = .refused .configuration)
    ∨ (s.seq = .probeCheck ∧ (cpTurn s).cpBusy = true ∧ (cpTurn s).mem.read s.cfg.progStart = 0x00
        ∧ (cpTurn s).mem.read (s.cfg.progStart + 1) = 0x00 ∧ step s = .refused .probeUnfinished)
    ∨ (s.seq = .checkResult ∧ s.cfg.consts.sbWords ≠ 4 ∧ step s = .refused (.undecodable .statusBlockLength))
    ∨ (s.seq = .dispatchStorage ∧ s.cfg.consts.cbLen ≠ 10 ∧ step s = .refused (.undecodable .controlBlockLength))
    ∨ ((s.seq = .probeLoad → s.cfg.wf = true) ∧ ∃ t, step s = .next t)

/-- A terminal state makes no transaction and never changes, for any number of steps; only a power cycle, a reset, leaves it
(10_state.md R22). -/
def Obligations.TerminalForever : Prop :=
  ∀ (n : Nat) (s : State), s.seq.terminal = true →
    (∃ t, Host.Core.run core n s = .next t ∧ t.seq = s.seq ∧ t.trace = s.trace ∧ t.capPresent = s.capPresent ∧ t.sb = s.sb
      ∧ t.req = s.req ∧ t.cb = s.cb ∧ t.tag = s.tag ∧ t.bankSel = s.bankSel ∧ t.ind = s.ind ∧ t.msg = s.msg
      ∧ t.fault = s.fault)
    ∧ s.powerCycle.seq = .probeLoad

/-- Each latch of 10_state.md R20 is written only in the state the spec names: cap_present in PROBE_CHECK (R23), SB in CHECK_RESULT
(R25), REQ in DISPATCH_STORAGE (R26), CB, TAG and bank_sel by a service (R27-R29), ind and msg where their events are emitted
(40_supervisor.md R113, R122, R127), fault on the entry into FAULT (60_exceptions.md R205). The start address changes only where
CpStart is made (R112, R126; that it is a field is the model's choice, log 15), the configuration never (00_scope.md R7; that it
stands in State is the model's choice, log 3). -/
def Obligations.LatchWriters : Prop :=
  ∀ s t : State, step s = .next t →
    t.cfg = s.cfg
    ∧ (s.seq ≠ .probeCheck → t.capPresent = s.capPresent)
    ∧ (s.seq ≠ .checkResult → t.sb = s.sb)
    ∧ (s.seq ≠ .dispatchStorage → t.req = s.req ∧ t.cb = s.cb ∧ t.tag = s.tag ∧ t.bankSel = s.bankSel)
    ∧ (s.seq ≠ .probeCheck → s.seq ≠ .dispatchError → s.seq ≠ .dispatchSuccess → t.ind = s.ind)
    ∧ (s.seq ≠ .probeCheck → s.seq ≠ .dispatchError → t.msg = s.msg)
    ∧ (s.seq = .fault ∨ t.seq ≠ .fault → t.fault = s.fault)
    ∧ (s.seq ≠ .probeLoad → s.seq ≠ .upload → t.cpEntry = s.cpEntry)

/-- A step only adds to the trace, and every access it makes, to co-processor memory or to the ROM, is one that 20_memory.md R51
lists for its state, at the address and of the length listed, a READ's tag read only at a good length and its transfer only in
bounds (41_storage_service.md R152); its other transactions are those of 40_supervisor.md R131. The state it goes by is that after
the co-processor's move, which the model places at the start of the step (log 1). -/
def Obligations.AccessesOfTable : Prop :=
  ∀ s t : State, s.documented → step s = .next t →
    ∃ es, t.trace = s.trace ++ es ∧ ∀ e ∈ es, accessAllowed (cpTurn s) e

/-- A step that enters FAULT records CP_RANGE, emits no indicator and no message, and neither starts nor continues the
co-processor (60_exceptions.md R205). The co-processor's move before the step is placed by the model (log 1). -/
def Obligations.FaultEntry : Prop :=
  ∀ s t : State, s.seq ≠ .fault → step s = .next t → t.seq = .fault →
    t.fault = .cpRange ∧ t.ind = s.ind ∧ t.msg = s.msg ∧ t.cpBusy = (cpTurn s).cpBusy ∧ t.cpEntry = s.cpEntry
    ∧ ∃ es, t.trace = s.trace ++ es ∧ .cpContinue ∉ es ∧ (∀ a, .cpStart a ∉ es) ∧ ∀ o, .emit o ∉ es

/-- An access of the sequencer that is out of range faults before any byte moves and before any transaction
(00_scope.md R11, 40_supervisor.md R111, R113, R115, R120; 95_test_vectors.md V-P7, V-U2, V-S13). The co-processor's move before
the step is placed by the model (log 1). -/
def Obligations.SequencerRangeFaults : Prop :=
  ∀ s : State,
    ((s.seq = .probeLoad ∧ s.cfg.wf = true ∧ s.cfg.cpMemSize < s.cfg.progStart + s.cfg.probePayload.length)
      ∨ (s.seq = .probeCheck ∧ s.cfg.cpMemSize < s.cfg.progStart + 2)
      ∨ (s.seq = .upload ∧ s.cfg.cpMemSize < s.cfg.progStart + s.cfg.updatePayload.length)
      ∨ (s.seq = .checkResult ∧ s.cfg.cpMemSize < s.cfg.statusAddr + 2 * s.cfg.consts.sbWords)) →
    step s = .next { cpTurn s with fault := .cpRange, seq := .fault }

/-! ## The sequencer

`cpTurn s` is s after the co-processor's move between two handler steps; that it comes at the start of the step is the model's
choice (log 1). -/

/-- PROBE_LOAD: the payload is written at PROG_START, the co-processor is started there (40_supervisor.md R111, R112). -/
def Obligations.ProbeLoadStep : Prop :=
  ∀ s : State, s.seq = .probeLoad → s.cfg.wf = true →
    s.cfg.progStart + s.cfg.probePayload.length ≤ s.cfg.cpMemSize →
    step s = .next { cpTurn s with
      mem := (cpTurn s).mem.writeBytes s.cfg.progStart s.cfg.probePayload
      cpEntry := s.cfg.progStart, cpBusy := true, seq := .probeCheck
      trace := s.trace ++ [.memWrite s.cfg.progStart s.cfg.probePayload, .cpStart s.cfg.progStart] }

/-- PROBE_CHECK: both readback bytes zero is the capability; anything else is the unsupported message and HALT_FAILURE
(40_supervisor.md R113, R128). A pass while the co-processor still runs breaks ENV_PROBE_DONE (60_exceptions.md R217) and is refused,
which is the model's choice (log 12). -/
def Obligations.ProbeCheckStep : Prop :=
  ∀ s : State, s.seq = .probeCheck → s.cfg.progStart + 2 ≤ s.cfg.cpMemSize →
    step s =
      if (cpTurn s).mem.read s.cfg.progStart = 0x00 ∧ (cpTurn s).mem.read (s.cfg.progStart + 1) = 0x00 then
        if (cpTurn s).cpBusy then .refused .probeUnfinished
        else .next { cpTurn s with
          capPresent := true, seq := .upload
          trace := s.trace ++ [.memRead s.cfg.progStart ((cpTurn s).mem.readBytes s.cfg.progStart 2)] }
      else .next { cpTurn s with
        capPresent := false, msg := .unsupported, ind := .failure, seq := .haltFailure
        trace := s.trace ++ [.memRead s.cfg.progStart ((cpTurn s).mem.readBytes s.cfg.progStart 2),
          .emit .msgUnsupported, .emit .indFailure] }

/-- UPLOAD: the update payload is written at PROG_START, the co-processor is started there (40_supervisor.md R115, R116). -/
def Obligations.UploadStep : Prop :=
  ∀ s : State, s.seq = .upload → s.cfg.progStart + s.cfg.updatePayload.length ≤ s.cfg.cpMemSize →
    step s = .next { cpTurn s with
      mem := (cpTurn s).mem.writeBytes s.cfg.progStart s.cfg.updatePayload
      cpEntry := s.cfg.progStart, cpBusy := true, seq := .running
      trace := s.trace ++ [.memWrite s.cfg.progStart s.cfg.updatePayload, .cpStart s.cfg.progStart] }

/-- RUNNING with CHECK_FIRST: a busy cycle polls a key and writes it at INPUT_ADDR; a clear busy bit goes to CHECK_RESULT with
no write (40_supervisor.md R117). -/
def Obligations.RunningCheckFirst : Prop :=
  ∀ s : State, s.seq = .running → s.cfg.keyOrder = .checkFirst →
    ((cpTurn s).cpBusy = true → s.cfg.inputAddr < s.cfg.cpMemSize →
      step s = .next { cpTurn s with
        mem := (cpTurn s).mem.write s.cfg.inputAddr (nextKey (cpTurn s))
        keyScript := s.keyScript.tail, drawn := (cpTurn s).drawn + 1
        trace := s.trace ++ [.cpBusy true, .pollKey (nextKey (cpTurn s)),
          .memWrite s.cfg.inputAddr [nextKey (cpTurn s)]] })
    ∧ ((cpTurn s).cpBusy = false →
      step s = .next { cpTurn s with seq := .checkResult, trace := s.trace ++ [.cpBusy false] })

/-- RUNNING with WRITE_FIRST: the key is written on every cycle, then busy is tested (40_supervisor.md R118). -/
def Obligations.RunningWriteFirst : Prop :=
  ∀ s : State, s.seq = .running → s.cfg.keyOrder = .writeFirst → s.cfg.inputAddr < s.cfg.cpMemSize →
    step s = .next { cpTurn s with
      mem := (cpTurn s).mem.write s.cfg.inputAddr (nextKey (cpTurn s))
      keyScript := s.keyScript.tail, drawn := (cpTurn s).drawn + 1
      seq := if (cpTurn s).cpBusy then .running else .checkResult
      trace := s.trace ++ [.pollKey (nextKey (cpTurn s)), .memWrite s.cfg.inputAddr [nextKey (cpTurn s)],
        .cpBusy (cpTurn s).cpBusy] }

/-- RUNNING with INPUT_ADDR out of range faults on the first cycle that writes, after the polls of its order
(40_supervisor.md R117, 95_test_vectors.md V-K7). -/
def Obligations.RunningRangeFault : Prop :=
  ∀ s : State, s.seq = .running → s.cfg.cpMemSize ≤ s.cfg.inputAddr →
    (s.cfg.keyOrder = .checkFirst → (cpTurn s).cpBusy = true → ∃ t, step s = .next t ∧ t.seq = .fault ∧ t.fault = .cpRange
      ∧ t.mem = (cpTurn s).mem ∧ t.trace = s.trace ++ [.cpBusy true, .pollKey (nextKey (cpTurn s))])
    ∧ (s.cfg.keyOrder = .writeFirst → ∃ t, step s = .next t ∧ t.seq = .fault ∧ t.fault = .cpRange
      ∧ t.mem = (cpTurn s).mem ∧ t.trace = s.trace ++ [.pollKey (nextKey (cpTurn s))])

/-- CHECK_RESULT: the eight bytes at STATUS_ADDR are latched as four big-endian words, and the class is chosen with the result
code tested first; the checksum words never choose it (40_supervisor.md R120, 30_encoding.md R80, R82). The co-processor is
halted there (`MachineInv.halted`). -/
def Obligations.CheckResultStep : Prop :=
  ∀ s : State, s.seq = .checkResult → s.cpBusy = false → s.cfg.consts.sbWords = 4 →
    s.cfg.statusAddr + 8 ≤ s.cfg.cpMemSize →
    step s = .next { s with
      sb := statusBlockAt s.mem s.cfg.statusAddr
      seq := if (statusBlockAt s.mem s.cfg.statusAddr).result ≠ 0 then .dispatchError
        else if (statusBlockAt s.mem s.cfg.statusAddr).request ≠ 0 then .dispatchStorage
        else .dispatchSuccess
      trace := s.trace ++ [.memRead s.cfg.statusAddr (s.mem.readBytes s.cfg.statusAddr 8)] }

/-- The probe fails safe: a device that leaves the first two bytes at PROG_START alone gives HALT_FAILURE with the unsupported
message, two steps after PROBE_LOAD (40_supervisor.md R114). The device's one move between the two steps is the model's (log 1,
log 11). -/
def Obligations.ProbeFailsSafe : Prop :=
  ∀ s : State, s.seq = .probeLoad → s.cpBusy = false → Memory.wf s.mem = true → s.cfg.wf = true →
    2 ≤ s.cfg.probePayload.length → s.cfg.progStart + s.cfg.probePayload.length ≤ s.cfg.cpMemSize →
    (∀ w ∈ (nextCpMove s).writes, w.1 ≠ s.cfg.progStart ∧ w.1 ≠ s.cfg.progStart + 1) →
    ∃ t u, step s = .next t ∧ step t = .next u ∧ u.seq = .haltFailure ∧ u.capPresent = false ∧ u.msg = .unsupported
      ∧ u.ind = .failure

/-- A co-processor that never halts keeps the handler in RUNNING for any number of steps (60_exceptions.md R215). Its moves are the
model's script (log 11). -/
def Obligations.RunningWhileNeverHalting : Prop :=
  ∀ (n : Nat) (s : State), s.seq = .running → s.cpBusy = true → s.cfg.inputAddr < s.cfg.cpMemSize →
    n ≤ s.cpScript.length → (∀ m ∈ s.cpScript, m.halts = false) →
    ∃ t, Host.Core.run core n s = .next t ∧ t.seq = .running ∧ t.cpBusy = true

/-- The co-processor moves only while its busy bit is set; its move changes only its memory, its busy bit and the pending
inputs, it never starts itself, and only the bytes it names change (60_exceptions.md R214). While it runs it makes its move: each
byte of memory it names ends at the last value it wrote there, and with all that done the busy bit is clear exactly if the move
halts (R214, R217, 20_memory.md R65). What a move is is the model's (log 11); a write outside memory changes nothing (log 31). -/
def Obligations.CoprocessorTurnFrame : Prop :=
  ∀ s : State,
    cpTurn s = { s with
      mem := (cpTurn s).mem, cpBusy := (cpTurn s).cpBusy, cpScript := (cpTurn s).cpScript, drawn := (cpTurn s).drawn }
    ∧ (s.cpBusy = false → cpTurn s = s)
    ∧ (∀ a, (∀ w ∈ (nextCpMove s).writes, w.1 ≠ a) → (cpTurn s).mem.read a = s.mem.read a)
    ∧ (∀ a, s.cfg.cpMemSize ≤ a → (cpTurn s).mem.read a = s.mem.read a)
    ∧ (s.cpBusy = true →
        (cpTurn s).cpBusy = (!(nextCpMove s).halts) ∧ (cpTurn s).cpScript = s.cpScript.tail
        ∧ (cpTurn s).drawn = s.drawn + 1
        ∧ (Memory.wf s.mem = true → ∀ a, a < s.cfg.cpMemSize → (cpTurn s).mem.read a =
            match (nextCpMove s).writes.reverse.find? (fun w => w.1 == a) with
            | some w => w.2
            | none => s.mem.read a))

/-- While the co-processor runs, the handler's only write is the key byte at INPUT_ADDR and its only read the probe readback
(20_memory.md R63 (b)). The step's transactions come after the co-processor's move, by the model's placement (log 1); that UPLOAD
finds it halted rests on the refusal of log 12. -/
def Obligations.OnlyKeyWritesWhileRunning : Prop :=
  ∀ (s t : State) (es : List Event), MachineInv s → step s = .next t → (cpTurn s).cpBusy = true → t.trace = s.trace ++ es →
    (∀ a bytes, .memWrite a bytes ∈ es → s.seq = .running ∧ a = s.cfg.inputAddr ∧ bytes.length = 1)
    ∧ (∀ a bytes, .memRead a bytes ∈ es → s.seq = .probeCheck ∧ a = s.cfg.progStart ∧ bytes.length = 2)

/-! ## The status-block classes -/

/-- ERROR: the mismatch message exactly when the checksums differ, then IND FAILURE and HALT_FAILURE; the request address is
ignored (40_supervisor.md R122, R128, 30_encoding.md R83). -/
def Obligations.ErrorCompletes : Prop :=
  ∀ (result request computed expected : Word) (s : State),
    exec (.error result request computed expected) s = .next (
      if computed ≠ expected then
        { s with
          msg := .checksumMismatch, ind := .failure, seq := .haltFailure
          trace := s.trace ++ [.emit .msgChecksumMismatch, .emit .indFailure] }
      else { s with ind := .failure, seq := .haltFailure, trace := s.trace ++ [.emit .indFailure] })

/-- SUCCESS: IND SUCCESS and HALT_SUCCESS, whatever the checksums (40_supervisor.md R127, R129). -/
def Obligations.SuccessCompletes : Prop :=
  ∀ (computed expected : Word) (s : State),
    exec (.success computed expected) s
      = .next { s with ind := .success, seq := .haltSuccess, trace := s.trace ++ [.emit .indSuccess] }

/-- STORAGE runs the request whose control block stands at the request address (40_supervisor.md R125, 41_storage_service.md
R150). The block's layout is the one for CB_LEN 10 (log 33). -/
def Obligations.StorageRunsService : Prop :=
  ∀ (request computed expected : Word) (s : State), s.cfg.consts.cbLen = 10 → request.toNat + 10 ≤ s.cfg.cpMemSize →
    exec (.storage request computed expected) s
      = exec ((controlBlockAt s.mem request.toNat).request s.cfg.consts)
          { s with req := request, trace := s.trace ++ [.memRead request.toNat (s.mem.readBytes request.toNat 10)] }

/-- STORAGE completes: with the block, its tag and its buffer in range it ends in RUNNING with the co-processor continued,
whatever the service reports (40_supervisor.md R125, R126). -/
def Obligations.StorageCompletes : Prop :=
  ∀ (request computed expected : Word) (s : State), s.documented → request.toNat + 21 ≤ s.cfg.cpMemSize →
    (controlBlockAt s.mem request.toNat).buf.toNat + 128 ≤ s.cfg.cpMemSize →
    ∃ t, exec (.storage request computed expected) s = .next t ∧ t.req = request ∧ t.seq = .running ∧ t.cpBusy = true
      ∧ t.fault = s.fault ∧ t.sb = s.sb
      ∧ ∃ es, t.trace = s.trace ++ [.memRead request.toNat (s.mem.readBytes request.toNat 10)] ++ es ++ [.cpContinue]

/-- STORAGE with its control block out of range faults; nothing is read and the co-processor is not continued
(41_storage_service.md R151, 95_test_vectors.md V-S11, V-E1). -/
def Obligations.StorageOutOfRange : Prop :=
  ∀ (request computed expected : Word) (s : State), s.cfg.cpMemSize < request.toNat + s.cfg.consts.cbLen →
    exec (.storage request computed expected) s = .next { s with req := request, fault := .cpRange, seq := .fault }

/-- STORAGE's frame: a service leaves alone the sequencer's latches and outputs, and every byte but the control block's and, for
a READ, the buffer's (41_storage_service.md R159, 42_storage_read.md R185). -/
def Obligations.StorageFrame : Prop :=
  ∀ (request computed expected : Word) (s t : State), exec (.storage request computed expected) s = .next t →
    serviceKeeps { s with req := request } t
    ∧ ∀ a, (a < request.toNat ∨ request.toNat + 10 ≤ a) →
        ((controlBlockAt s.mem request.toNat).opc = s.cfg.consts.opRead →
          a < (controlBlockAt s.mem request.toNat).buf.toNat
            ∨ (controlBlockAt s.mem request.toNat).buf.toNat + s.cfg.consts.recSize ≤ a) →
        t.mem.read a = s.mem.read a

/-- ERROR and SUCCESS leave everything alone but the sequencer, the indicator, the message and the trace; every byte of memory
is unchanged (40_supervisor.md R122, R127). -/
def Obligations.HaltingClassesFrame : Prop :=
  ∀ (i : Instr) (s t : State), (∃ r q c e, i = .error r q c e) ∨ (∃ c e, i = .success c e) → exec i s = .next t →
    t = { s with seq := t.seq, ind := t.ind, msg := t.msg, trace := t.trace }
    ∧ (∀ c e, i = .success c e → t.msg = s.msg) ∧ ∀ a, t.mem.read a = s.mem.read a

/-! ## The storage service -/

/-- CLOSE: no flag, no write-back, no bank switch, no transfer, any length; the co-processor is continued
(41_storage_service.md R153). -/
def Obligations.CloseCompletes : Prop :=
  ∀ (f : RequestFields) (s : State), s.documented →
    exec (.closeReq f) s = .next { s with
      cb := { toRequestFields := f, opc := 0x01 }, cpBusy := true, seq := .running
      trace := s.trace ++ [.cpContinue] }

/-- OPEN with the record length: accepted silently when the attribute byte is OPEN_ATTR, else ERR_BADATTR is ORed; the block is
written back either way (41_storage_service.md R156, R158). -/
def Obligations.OpenCompletes : Prop :=
  ∀ (f : RequestFields) (s : State), s.documented → f.rlen = 0x80 → s.req.toNat + 10 ≤ s.cfg.cpMemSize →
    exec (.openReq f) s = .next (writtenBack
      { toRequestFields := { f with err := if f.err = s.cfg.openAttr then f.err else f.err ||| 0x40 }, opc := 0x00 } s)

/-- INVALID: ERR_BADATTR is ORed and the block written back, whatever the length; no trap (41_storage_service.md R157,
30_encoding.md R95). -/
def Obligations.InvalidCompletes : Prop :=
  ∀ (opc : Byte) (f : RequestFields) (s : State), s.documented → s.req.toNat + 10 ≤ s.cfg.cpMemSize →
    exec (.invalidReq opc f) s = .next (writtenBack
      { toRequestFields := { f with err := f.err ||| 0x40 }, opc := opc } s)

/-- The length check: OPEN, READ and INVALID with RLEN other than 128 get ERR_BADATTR and a write-back, and nothing else
happens: no tag read, no bank switch, no transfer (41_storage_service.md R154). -/
def Obligations.LengthCheckRejects : Prop :=
  ∀ (f : RequestFields) (s : State), s.documented → f.rlen ≠ 0x80 → s.req.toNat + 10 ≤ s.cfg.cpMemSize →
    exec (.openReq f) s = .next (writtenBack { toRequestFields := { f with err := f.err ||| 0x40 }, opc := 0x00 } s)
    ∧ exec (.readReq f) s = .next (writtenBack { toRequestFields := { f with err := f.err ||| 0x40 }, opc := 0x02 } s)
    ∧ ∀ opc, exec (.invalidReq opc f) s
        = .next (writtenBack { toRequestFields := { f with err := f.err ||| 0x40 }, opc := opc } s)

/-- A service ORs at most one error flag into the error byte and clears nothing: which one, for every request and in the order of
the tests (30_encoding.md R97, R98, 41_storage_service.md R161, 60_exceptions.md R203). A READ whose tag or buffer is out of range
faults with no flag. -/
def Obligations.AtMostOneFlag : Prop :=
  ∀ (f : RequestFields) (s : State), s.documented →
    (∃ t, exec (.closeReq f) s = .next t ∧ t.cb.err = f.err)
    ∧ (∃ t, exec (.openReq f) s = .next t
        ∧ t.cb.err = if f.rlen ≠ 0x80 ∨ f.err ≠ s.cfg.openAttr then f.err ||| 0x40 else f.err)
    ∧ (∀ opc, ∃ t, exec (.invalidReq opc f) s = .next t ∧ t.cb.err = f.err ||| 0x40)
    ∧ (∃ t, exec (.readReq f) s = .next t
        ∧ t.cb.err =
          if f.rlen ≠ 0x80 then f.err ||| 0x40
          else if s.cfg.cpMemSize < s.req.toNat + 21 then f.err
          else match resolveTag s.cfg (tagAt s.mem (s.req.toNat + 19)) with
            | none => f.err ||| 0xE0
            | some file =>
              if (f.recNo.toNat / 126 + firstBank s.cfg file) % 2 ^ s.cfg.bankW ≥ nextBank s.cfg file
                  ∨ (f.recNo.toNat / 126 + firstBank s.cfg file) % 2 ^ s.cfg.bankW < s.cfg.b0 then f.err ||| 0xA0
              else f.err)

/-- The frame of OPEN, CLOSE and INVALID: only the block at REQ can change in memory, for CLOSE not even that; the tag and the
bank selector stay (41_storage_service.md R153, R159, 10_state.md R28, R29). -/
def Obligations.RequestFrame : Prop :=
  ∀ (i : Instr) (f : RequestFields) (opc : Byte) (s t : State),
    (i = .openReq f ∨ i = .closeReq f ∨ i = .invalidReq opc f) → exec i s = .next t →
    serviceKeeps s t ∧ t.tag = s.tag ∧ t.bankSel = s.bankSel
    ∧ (∀ a, (a < s.req.toNat ∨ s.req.toNat + 10 ≤ a) → t.mem.read a = s.mem.read a)
    ∧ (i = .closeReq f → ∀ a, t.mem.read a = s.mem.read a)

/-! ## READ -/

/-- A successful READ: what it changes, and its transactions in the order of 42_storage_read.md R186 (R170-R186). -/
def Obligations.ReadTransfers : Prop :=
  ∀ (f : RequestFields) (s : State) (file : VirtualFile) (bank off : Nat), s.documented → f.rlen = 0x80 →
    s.req.toNat + 21 ≤ s.cfg.cpMemSize → f.buf.toNat + 128 ≤ s.cfg.cpMemSize →
    resolveTag s.cfg (tagAt s.mem (s.req.toNat + 19)) = some file →
    translateRecord s.cfg file f.recNo.toNat = some (bank, off) →
    exec (.readReq f) s = .next (writtenBack
      { toRequestFields := { f with recNo := f.recNo + 1, retlen := 0x80 }, opc := 0x02 }
      { tagRead s with
        bankSel := bank
        mem := s.mem.writeBytes f.buf.toNat (romBytes s.cfg bank off 128)
        trace := (tagRead s).trace ++ [.switchBank bank, .romRead off 128,
          .memWrite f.buf.toNat (romBytes s.cfg bank off 128)] })

/-- A READ whose tag selects no file: ERR_BADNAME and a write-back; no bank switch, no transfer (42_storage_read.md R172). -/
def Obligations.ReadBadName : Prop :=
  ∀ (f : RequestFields) (s : State), s.documented → f.rlen = 0x80 → s.req.toNat + 21 ≤ s.cfg.cpMemSize →
    tagAt s.mem (s.req.toNat + 19) ≠ ⟨0x42, 0x49⟩ → tagAt s.mem (s.req.toNat + 19) ≠ s.cfg.tag2 →
    exec (.readReq f) s = .next (writtenBack
      { toRequestFields := { f with err := f.err ||| 0xE0 }, opc := 0x02 } (tagRead s))

/-- The tag resolver and the bound table: "BI" selects file 1 with banks from B0 and the end B1, TAG2 selects file 2 with banks from
B1 and the end B2, any other tag selects no file (42_storage_read.md R172, R173, 30_encoding.md R99, R100). The ASCII codes are the
spec's, from general knowledge (log 18). -/
def Obligations.TagSelectsFile : Prop :=
  ∀ (c : Config) (t : Tag), c.consts = .document →
    (resolveTag c t).map (fun file => (firstBank c file, nextBank c file)) =
      if t.c0 = 0x42 ∧ t.c1 = 0x49 then some (c.b0, c.b1)
      else if t = c.tag2 then some (c.b1, c.b2)
      else none

/-- A READ of a record of its file reads that record: with "BI" the bank is B0 + floor(rec / 126), with TAG2 it is
B1 + floor(rec / 126), and the 128 bytes at BUF, where the block does not overlap them, are the bank's from (rec mod 126) * 128 on
(42_storage_read.md R172, R175, R181-R184, R190). The ASCII codes are log 18. -/
def Obligations.ReadRecordOfFile : Prop :=
  ∀ (f : RequestFields) (s : State) (first next : Nat), s.documented → s.cfg.wf = true → Memory.wf s.mem = true →
    f.rlen = 0x80 → s.req.toNat + 21 ≤ s.cfg.cpMemSize → f.buf.toNat + 128 ≤ s.cfg.cpMemSize →
    ((tagAt s.mem (s.req.toNat + 19) = ⟨0x42, 0x49⟩ ∧ first = s.cfg.b0 ∧ next = s.cfg.b1)
      ∨ (tagAt s.mem (s.req.toNat + 19) = s.cfg.tag2 ∧ first = s.cfg.b1 ∧ next = s.cfg.b2)) →
    f.recNo.toNat < (next - first) * 126 →
    ∃ t, exec (.readReq f) s = .next t ∧ t.seq = .running ∧ t.bankSel = first + f.recNo.toNat / 126
      ∧ t.cb.err = f.err ∧ t.cb.retlen = 0x80 ∧ t.cb.recNo = f.recNo + 1
      ∧ ∀ i, i < 128 → (f.buf.toNat + i < s.req.toNat ∨ s.req.toNat + 10 ≤ f.buf.toNat + i) →
          t.mem.read (f.buf.toNat + i)
            = romByte s.cfg (first + f.recNo.toNat / 126) (f.recNo.toNat % 126 * 128 + i)

/-- A READ whose bank falls outside `[B0, next)`: ERR_EOF and a write-back; no bank switch, no transfer. The bank is the sum of
42_storage_read.md R175, the test that of R179. -/
def Obligations.ReadPastEnd : Prop :=
  ∀ (f : RequestFields) (s : State) (file : VirtualFile), s.documented → f.rlen = 0x80 →
    s.req.toNat + 21 ≤ s.cfg.cpMemSize → resolveTag s.cfg (tagAt s.mem (s.req.toNat + 19)) = some file →
    ((f.recNo.toNat / 126 + firstBank s.cfg file) % 2 ^ s.cfg.bankW ≥ nextBank s.cfg file
      ∨ (f.recNo.toNat / 126 + firstBank s.cfg file) % 2 ^ s.cfg.bankW < s.cfg.b0) →
    exec (.readReq f) s = .next (writtenBack
      { toRequestFields := { f with err := f.err ||| 0xA0 }, opc := 0x02 } (tagRead s))

/-- A READ whose tag bytes are out of range faults before any test of the tag: no flag, no write-back
(42_storage_read.md R171, 95_test_vectors.md V-E3). -/
def Obligations.ReadTagOutOfRange : Prop :=
  ∀ (f : RequestFields) (s : State), s.documented → f.rlen = 0x80 → s.cfg.cpMemSize < s.req.toNat + 21 →
    exec (.readReq f) s
      = .next { s with cb := { toRequestFields := f, opc := 0x02 }, fault := .cpRange, seq := .fault }

/-- A READ whose buffer is out of range faults after the bank switch: no byte of the buffer and no byte of the block is written
(42_storage_read.md R188). -/
def Obligations.ReadBufferOutOfRange : Prop :=
  ∀ (f : RequestFields) (s : State) (file : VirtualFile) (bank off : Nat), s.documented → f.rlen = 0x80 →
    s.req.toNat + 21 ≤ s.cfg.cpMemSize → s.cfg.cpMemSize < f.buf.toNat + 128 →
    resolveTag s.cfg (tagAt s.mem (s.req.toNat + 19)) = some file →
    translateRecord s.cfg file f.recNo.toNat = some (bank, off) →
    exec (.readReq f) s = .next { tagRead s with
      cb := { toRequestFields := f, opc := 0x02 }, bankSel := bank, fault := .cpRange, seq := .fault
      trace := (tagRead s).trace ++ [.switchBank bank, .romRead off 128] }

/-- Byte by byte what a successful READ leaves in memory: the control block's ten bytes win over the record's where they overlap,
the record's 128 bytes are ROM data, every other byte is unchanged (42_storage_read.md R182, R187). -/
def Obligations.ReadLeavesInMemory : Prop :=
  ∀ (f : RequestFields) (s : State) (file : VirtualFile) (bank off : Nat), s.documented → f.rlen = 0x80 →
    Memory.wf s.mem = true → s.req.toNat + 21 ≤ s.cfg.cpMemSize → f.buf.toNat + 128 ≤ s.cfg.cpMemSize →
    resolveTag s.cfg (tagAt s.mem (s.req.toNat + 19)) = some file →
    translateRecord s.cfg file f.recNo.toNat = some (bank, off) →
    ∃ t, exec (.readReq f) s = .next t ∧ t.bankSel = bank ∧ t.seq = .running ∧ ∀ a,
      t.mem.read a =
        if s.req.toNat ≤ a ∧ a < s.req.toNat + 10 then
          ([0x02, f.err, hiByte f.buf, loByte f.buf, 0x80, 0x80, hiByte (f.recNo + 1), loByte (f.recNo + 1), f.x8, f.x9]).getD
            (a - s.req.toNat) 0
        else if f.buf.toNat ≤ a ∧ a < f.buf.toNat + 128 then romByte s.cfg bank (off + (a - f.buf.toNat))
        else s.mem.read a

/-- READ's frame: the sequencer's latches and outputs stay; without a transfer the bank selector and every byte outside the block
stay; with one, every byte outside the block and the buffer (10_state.md R29, 41_storage_service.md R159, 42_storage_read.md
R185). -/
def Obligations.ReadFrame : Prop :=
  ∀ (f : RequestFields) (s t : State), exec (.readReq f) s = .next t →
    serviceKeeps s t
    ∧ (∀ a, (a < s.req.toNat ∨ s.req.toNat + 10 ≤ a) →
        (a < f.buf.toNat ∨ f.buf.toNat + s.cfg.consts.recSize ≤ a) → t.mem.read a = s.mem.read a)
    ∧ (readTarget f s = none → t.bankSel = s.bankSel
        ∧ ∀ a, (a < s.req.toNat ∨ s.req.toNat + 10 ≤ a) → t.mem.read a = s.mem.read a)

/-- No READ depends on the bank that was selected before it (10_state.md R30): two states that differ only in bank_sel end with
the same memory, latches and transactions. -/
def Obligations.ReadIgnoresOldBank : Prop :=
  ∀ (f : RequestFields) (s : State) (b : Nat),
    ∃ t t', exec (.readReq f) s = .next t ∧ exec (.readReq f) { s with bankSel := b } = .next t'
      ∧ t'.mem = t.mem ∧ t'.cb = t.cb ∧ t'.tag = t.tag ∧ t'.seq = t.seq ∧ t'.fault = t.fault ∧ t'.trace = t.trace
      ∧ (readTarget f s ≠ none → t.seq = .running → t'.bankSel = t.bankSel)

/-- The record increment carries from the low byte into the high byte, and the carry out of the high byte is lost; RETLEN becomes
128 and no other byte of the block changes (42_storage_read.md R183, R184). -/
def Obligations.RecordIncrementCarries : Prop :=
  ∀ b : ControlBlock,
    (transferred .document b).bytes =
      [b.opc, b.err, hiByte b.buf, loByte b.buf, b.rlen, 0x80,
        if loByte b.recNo = 0xFF then hiByte b.recNo + 1 else hiByte b.recNo, loByte b.recNo + 1, b.x8, b.x9]
    ∧ (transferred .document b).recNo.toNat = (b.recNo.toNat + 1) % 2 ^ 16

/-! ## The translator and bounds checker -/

/-- Records of the file always succeed, without a wrap, at bank first + floor(rec / 126) and offset (rec mod 126) * 128
(42_storage_read.md R190, first item). -/
def Obligations.RecordsOfFileSucceed : Prop :=
  ∀ (c : Config) (file : VirtualFile) (recNo : Nat), c.wf = true → c.consts = .document →
    recNo < (nextBank c file - firstBank c file) * 126 →
    translateRecord c file recNo = some (firstBank c file + recNo / 126, recNo % 126 * 128)

/-- Under the no-aliasing condition the bounds check is complete: a READ is let through exactly for the records of its file
(42_storage_read.md R190). -/
def Obligations.NoAliasingUnderCondition : Prop :=
  ∀ (c : Config) (file : VirtualFile) (recNo : Word), c.wf = true → c.consts = .document → c.noAliasing = true →
    (translateRecord c file recNo.toNat ≠ none ↔ recNo.toNat < (nextBank c file - firstBank c file) * 126)

/-- Every record lies wholly inside its bank: OFF is a multiple of 128 from 0 to 16000 and OFF + 128 is at most 16128
(42_storage_read.md R181). -/
def Obligations.RecordInsideBank : Prop :=
  ∀ (c : Config) (file : VirtualFile) (recNo bank off : Nat), c.consts = .document →
    translateRecord c file recNo = some (bank, off) → 128 ∣ off ∧ off ≤ 16000 ∧ off + 128 ≤ 16128

/-- The bounds checker keeps every selected bank inside `[B0, B2)` and inside the bank-number space (20_memory.md R62). -/
def Obligations.BanksInsideFiles : Prop :=
  ∀ (c : Config) (file : VirtualFile) (recNo bank off : Nat), c.wf = true →
    translateRecord c file recNo = some (bank, off) → c.b0 ≤ bank ∧ bank < c.b2 ∧ bank < 2 ^ c.bankW
end

