-- ==== Sys2Proof/Laws/Memory.lean ====
section
/-! SUPPORT. The laws of memory: the canonical form is kept by every operation, a read after a write, every other byte
unchanged, and the same for byte sequences and for the co-processor's writes. -/

namespace Sys2Proof.Machine

theorem Memory.wf_tail {c : Host.Cell} {m : Memory} (h : Memory.wf (c :: m) = true) : Memory.wf m = true := by
  cases m with
  | nil => rfl
  | cons d m => simp [Memory.wf] at h; exact h.2

/-- The canonical form, said over all pairs. -/
theorem Memory.wf_cons_iff (c : Host.Cell) (m : Memory) :
    Memory.wf (c :: m) = true ↔ c.2 ≠ Memory.blank ∧ (∀ d ∈ m, c.1 < d.1) ∧ Memory.wf m = true := by
  induction m generalizing c with
  | nil => simp [Memory.wf]
  | cons d m ih =>
    constructor
    · intro h
      have ht := Memory.wf_tail h
      simp only [Memory.wf, Bool.and_eq_true, bne_iff_ne, decide_eq_true_eq] at h
      refine ⟨h.1.1, fun e he => ?_, ht⟩
      rcases List.mem_cons.1 he with rfl | he
      · exact h.1.2
      · exact h.1.2.trans ((ih d).1 ht |>.2.1 e he)
    · rintro ⟨h0, h1, h2⟩
      simp [Memory.wf, h0, h1 d (by simp), h2]

@[simp] theorem Memory.wf_nil : Memory.wf [] = true := rfl

@[simp] theorem Memory.read_nil (a : Nat) : Memory.read [] a = Memory.blank := rfl

/-- An address below every listed one reads as blank. -/
theorem Memory.read_below {m : Memory} {a : Nat} (h : ∀ d ∈ m, a < d.1) : m.read a = Memory.blank := by
  induction m with
  | nil => rfl
  | cons c m ih =>
    have hc := h c (by simp)
    rw [Memory.read, if_neg (by omega)]
    exact ih fun d hd => h d (by simp [hd])

/-- What a write lists was listed before, or is the written cell. -/
theorem Memory.mem_write {m : Memory} {a : Nat} {v : Byte} {d : Host.Cell} (h : d ∈ m.write a v) :
    d ∈ m ∨ d = (a, v) := by
  induction m with
  | nil => simp only [Memory.write] at h; split at h <;> simp_all
  | cons c m ih =>
    simp only [Memory.write] at h
    split at h
    · split at h
      · exact .inl h
      · simp only [List.mem_cons] at h ⊢; tauto
    · split at h
      · split at h
        · exact .inl (by simp [h])
        · simp only [List.mem_cons] at h ⊢; tauto
      · simp only [List.mem_cons] at h ⊢
        rcases h with h | h
        · exact .inl (.inl h)
        · exact (ih h).elim (fun h => .inl (.inr h)) .inr

theorem Memory.write_wf {m : Memory} (h : Memory.wf m = true) (a : Nat) (v : Byte) : Memory.wf (m.write a v) = true := by
  induction m with
  | nil => simp only [Memory.write]; split <;> simp_all [Memory.wf]
  | cons c m ih =>
    obtain ⟨h0, h1, h2⟩ := (Memory.wf_cons_iff c m).1 h
    simp only [Memory.write]
    split
    · rename_i hlt
      split
      · exact h
      · rename_i hv
        refine (Memory.wf_cons_iff _ _).2 ⟨hv, fun d hd => ?_, h⟩
        rcases List.mem_cons.1 hd with rfl | hd
        · exact hlt
        · exact hlt.trans (h1 d hd)
    · split
      · rename_i heq
        split
        · exact h2
        · rename_i hv
          exact (Memory.wf_cons_iff _ _).2 ⟨hv, fun d hd => heq ▸ h1 d hd, h2⟩
      · rename_i hlt hne
        refine (Memory.wf_cons_iff _ _).2 ⟨h0, fun d hd => ?_, ih h2⟩
        rcases Memory.mem_write hd with hd | rfl
        · exact h1 d hd
        · show c.1 < a; omega

/-- A read after a write to the same address, in canonical memory. -/
theorem Memory.read_write_same {m : Memory} (h : Memory.wf m = true) (a : Nat) (v : Byte) : (m.write a v).read a = v := by
  induction m with
  | nil => simp only [Memory.write]; split <;> simp_all [Memory.read]
  | cons c m ih =>
    obtain ⟨_, h1, h2⟩ := (Memory.wf_cons_iff c m).1 h
    simp only [Memory.write]
    split
    · rename_i hlt
      split
      · rename_i hv
        rw [hv]
        refine Memory.read_below fun d hd => ?_
        rcases List.mem_cons.1 hd with rfl | hd
        · exact hlt
        · exact hlt.trans (h1 d hd)
      · simp [Memory.read]
    · split
      · rename_i heq
        split
        · rename_i hv; rw [hv]; exact Memory.read_below fun d hd => heq ▸ h1 d hd
        · simp [Memory.read]
      · rename_i hne; rw [Memory.read, if_neg hne]; exact ih h2

/-- A write leaves every other address alone, in any memory. -/
theorem Memory.read_write_other {a b : Nat} (h : b ≠ a) (m : Memory) (v : Byte) : (m.write a v).read b = m.read b := by
  induction m with
  | nil => simp only [Memory.write]; split <;> simp [Memory.read, h]
  | cons c m ih =>
    simp only [Memory.write]
    split
    · split
      · rfl
      · simp [Memory.read, h]
    · split
      · rename_i heq
        have hb : b ≠ c.1 := heq ▸ h
        split <;> simp [Memory.read, h, hb]
      · simp only [Memory.read, ih]

@[simp] theorem Memory.readBytes_length (m : Memory) (a n : Nat) : (m.readBytes a n).length = n := by
  induction n generalizing a with
  | zero => rfl
  | succ n ih => simp [Memory.readBytes, ih]

theorem Memory.writeBytes_wf {m : Memory} (h : Memory.wf m = true) (a : Nat) (bs : List Byte) :
    Memory.wf (m.writeBytes a bs) = true := by
  induction bs generalizing m a with
  | nil => exact h
  | cons v vs ih => exact ih (Memory.write_wf h a v) (a + 1)

/-- Writing bytes leaves every address outside `[a, a + n)` alone. -/
theorem Memory.read_writeBytes_outside {a b : Nat} {bs : List Byte} (h : b < a ∨ a + bs.length ≤ b) (m : Memory) :
    (m.writeBytes a bs).read b = m.read b := by
  induction bs generalizing m a with
  | nil => rfl
  | cons v vs ih =>
    simp only [List.length_cons] at h
    rw [Memory.writeBytes, ih (by omega), Memory.read_write_other (by omega)]

/-- Writing bytes puts byte i at address a + i, in canonical memory. -/
theorem Memory.read_writeBytes_inside {m : Memory} (h : Memory.wf m = true) (a : Nat) (bs : List Byte) {i : Nat}
    (hi : i < bs.length) : (m.writeBytes a bs).read (a + i) = bs[i] := by
  induction bs generalizing m a i with
  | nil => simp at hi
  | cons v vs ih =>
    cases i with
    | zero =>
      rw [Memory.writeBytes, Memory.read_writeBytes_outside (by omega)]
      exact Memory.read_write_same h a v
    | succ i =>
      have := ih (Memory.write_wf h a v) (a + 1) (i := i) (by simpa using hi)
      simpa [Memory.writeBytes, Nat.add_assoc, Nat.add_comm 1 i] using this

/-- What a sequence of writes lists was listed before, or lies in the written range. -/
theorem Memory.mem_writeBytes {m : Memory} {a : Nat} {bs : List Byte} {d : Host.Cell} (h : d ∈ m.writeBytes a bs) :
    d ∈ m ∨ (a ≤ d.1 ∧ d.1 < a + bs.length) := by
  induction bs generalizing m a with
  | nil => exact .inl h
  | cons v vs ih =>
    rcases ih h with h | h
    · rcases Memory.mem_write h with h | rfl
      · exact .inl h
      · exact .inr (by simp)
    · exact .inr (by simp only [List.length_cons]; omega)

theorem cpWrites_wf {m : Memory} (h : Memory.wf m = true) (size : Nat) (ws : List (Nat × Byte)) :
    Memory.wf (cpWrites size m ws) = true := by
  induction ws generalizing m with
  | nil => exact h
  | cons w ws ih =>
    rw [cpWrites]
    split
    · exact ih (Memory.write_wf h w.1 w.2)
    · exact ih h

/-- The co-processor's writes list nothing outside its memory. -/
theorem cpWrites_inside {m : Memory} {size : Nat} (h : ∀ d ∈ m, d.1 < size) (ws : List (Nat × Byte)) :
    ∀ d ∈ cpWrites size m ws, d.1 < size := by
  induction ws generalizing m with
  | nil => exact h
  | cons w ws ih =>
    rw [cpWrites]
    split
    · rename_i hw
      exact ih fun d hd => (Memory.mem_write hd).elim (h d) fun e => e ▸ hw
    · exact ih h

/-- The co-processor's writes leave every address they do not name alone. -/
theorem read_cpWrites_other {size b : Nat} {ws : List (Nat × Byte)} (h : ∀ w ∈ ws, w.1 ≠ b) (m : Memory) :
    (cpWrites size m ws).read b = m.read b := by
  induction ws generalizing m with
  | nil => rfl
  | cons w ws ih =>
    rw [cpWrites, ih fun x hx => h x (by simp [hx])]
    split
    · exact Memory.read_write_other (fun e => h w (by simp) e.symm) m w.2
    · rfl

end Sys2Proof.Machine
end

