-- ==== Sys2Proof/Laws/State.lean ====
section
/-! SUPPORT. One lemma per field per update of State, each true by rfl. -/

namespace Sys2Proof.Machine

variable (s : State)

@[simp] theorem State.setSeq_cfg (v : SeqState) : (s.setSeq v).cfg = s.cfg := rfl
@[simp] theorem State.setSeq_seq (v : SeqState) : (s.setSeq v).seq = v := rfl
@[simp] theorem State.setSeq_capPresent (v : SeqState) : (s.setSeq v).capPresent = s.capPresent := rfl
@[simp] theorem State.setSeq_sb (v : SeqState) : (s.setSeq v).sb = s.sb := rfl
@[simp] theorem State.setSeq_req (v : SeqState) : (s.setSeq v).req = s.req := rfl
@[simp] theorem State.setSeq_cb (v : SeqState) : (s.setSeq v).cb = s.cb := rfl
@[simp] theorem State.setSeq_tag (v : SeqState) : (s.setSeq v).tag = s.tag := rfl
@[simp] theorem State.setSeq_bankSel (v : SeqState) : (s.setSeq v).bankSel = s.bankSel := rfl
@[simp] theorem State.setSeq_ind (v : SeqState) : (s.setSeq v).ind = s.ind := rfl
@[simp] theorem State.setSeq_msg (v : SeqState) : (s.setSeq v).msg = s.msg := rfl
@[simp] theorem State.setSeq_fault (v : SeqState) : (s.setSeq v).fault = s.fault := rfl
@[simp] theorem State.setSeq_mem (v : SeqState) : (s.setSeq v).mem = s.mem := rfl
@[simp] theorem State.setSeq_cpBusy (v : SeqState) : (s.setSeq v).cpBusy = s.cpBusy := rfl
@[simp] theorem State.setSeq_cpEntry (v : SeqState) : (s.setSeq v).cpEntry = s.cpEntry := rfl
@[simp] theorem State.setSeq_cpScript (v : SeqState) : (s.setSeq v).cpScript = s.cpScript := rfl
@[simp] theorem State.setSeq_keyScript (v : SeqState) : (s.setSeq v).keyScript = s.keyScript := rfl
@[simp] theorem State.setSeq_drawn (v : SeqState) : (s.setSeq v).drawn = s.drawn := rfl
@[simp] theorem State.setSeq_trace (v : SeqState) : (s.setSeq v).trace = s.trace := rfl

@[simp] theorem State.setCapPresent_cfg (v : Bool) : (s.setCapPresent v).cfg = s.cfg := rfl
@[simp] theorem State.setCapPresent_seq (v : Bool) : (s.setCapPresent v).seq = s.seq := rfl
@[simp] theorem State.setCapPresent_capPresent (v : Bool) : (s.setCapPresent v).capPresent = v := rfl
@[simp] theorem State.setCapPresent_sb (v : Bool) : (s.setCapPresent v).sb = s.sb := rfl
@[simp] theorem State.setCapPresent_req (v : Bool) : (s.setCapPresent v).req = s.req := rfl
@[simp] theorem State.setCapPresent_cb (v : Bool) : (s.setCapPresent v).cb = s.cb := rfl
@[simp] theorem State.setCapPresent_tag (v : Bool) : (s.setCapPresent v).tag = s.tag := rfl
@[simp] theorem State.setCapPresent_bankSel (v : Bool) : (s.setCapPresent v).bankSel = s.bankSel := rfl
@[simp] theorem State.setCapPresent_ind (v : Bool) : (s.setCapPresent v).ind = s.ind := rfl
@[simp] theorem State.setCapPresent_msg (v : Bool) : (s.setCapPresent v).msg = s.msg := rfl
@[simp] theorem State.setCapPresent_fault (v : Bool) : (s.setCapPresent v).fault = s.fault := rfl
@[simp] theorem State.setCapPresent_mem (v : Bool) : (s.setCapPresent v).mem = s.mem := rfl
@[simp] theorem State.setCapPresent_cpBusy (v : Bool) : (s.setCapPresent v).cpBusy = s.cpBusy := rfl
@[simp] theorem State.setCapPresent_cpEntry (v : Bool) : (s.setCapPresent v).cpEntry = s.cpEntry := rfl
@[simp] theorem State.setCapPresent_cpScript (v : Bool) : (s.setCapPresent v).cpScript = s.cpScript := rfl
@[simp] theorem State.setCapPresent_keyScript (v : Bool) : (s.setCapPresent v).keyScript = s.keyScript := rfl
@[simp] theorem State.setCapPresent_drawn (v : Bool) : (s.setCapPresent v).drawn = s.drawn := rfl
@[simp] theorem State.setCapPresent_trace (v : Bool) : (s.setCapPresent v).trace = s.trace := rfl

@[simp] theorem State.setSb_cfg (v : StatusBlock) : (s.setSb v).cfg = s.cfg := rfl
@[simp] theorem State.setSb_seq (v : StatusBlock) : (s.setSb v).seq = s.seq := rfl
@[simp] theorem State.setSb_capPresent (v : StatusBlock) : (s.setSb v).capPresent = s.capPresent := rfl
@[simp] theorem State.setSb_sb (v : StatusBlock) : (s.setSb v).sb = v := rfl
@[simp] theorem State.setSb_req (v : StatusBlock) : (s.setSb v).req = s.req := rfl
@[simp] theorem State.setSb_cb (v : StatusBlock) : (s.setSb v).cb = s.cb := rfl
@[simp] theorem State.setSb_tag (v : StatusBlock) : (s.setSb v).tag = s.tag := rfl
@[simp] theorem State.setSb_bankSel (v : StatusBlock) : (s.setSb v).bankSel = s.bankSel := rfl
@[simp] theorem State.setSb_ind (v : StatusBlock) : (s.setSb v).ind = s.ind := rfl
@[simp] theorem State.setSb_msg (v : StatusBlock) : (s.setSb v).msg = s.msg := rfl
@[simp] theorem State.setSb_fault (v : StatusBlock) : (s.setSb v).fault = s.fault := rfl
@[simp] theorem State.setSb_mem (v : StatusBlock) : (s.setSb v).mem = s.mem := rfl
@[simp] theorem State.setSb_cpBusy (v : StatusBlock) : (s.setSb v).cpBusy = s.cpBusy := rfl
@[simp] theorem State.setSb_cpEntry (v : StatusBlock) : (s.setSb v).cpEntry = s.cpEntry := rfl
@[simp] theorem State.setSb_cpScript (v : StatusBlock) : (s.setSb v).cpScript = s.cpScript := rfl
@[simp] theorem State.setSb_keyScript (v : StatusBlock) : (s.setSb v).keyScript = s.keyScript := rfl
@[simp] theorem State.setSb_drawn (v : StatusBlock) : (s.setSb v).drawn = s.drawn := rfl
@[simp] theorem State.setSb_trace (v : StatusBlock) : (s.setSb v).trace = s.trace := rfl

@[simp] theorem State.setReq_cfg (v : Word) : (s.setReq v).cfg = s.cfg := rfl
@[simp] theorem State.setReq_seq (v : Word) : (s.setReq v).seq = s.seq := rfl
@[simp] theorem State.setReq_capPresent (v : Word) : (s.setReq v).capPresent = s.capPresent := rfl
@[simp] theorem State.setReq_sb (v : Word) : (s.setReq v).sb = s.sb := rfl
@[simp] theorem State.setReq_req (v : Word) : (s.setReq v).req = v := rfl
@[simp] theorem State.setReq_cb (v : Word) : (s.setReq v).cb = s.cb := rfl
@[simp] theorem State.setReq_tag (v : Word) : (s.setReq v).tag = s.tag := rfl
@[simp] theorem State.setReq_bankSel (v : Word) : (s.setReq v).bankSel = s.bankSel := rfl
@[simp] theorem State.setReq_ind (v : Word) : (s.setReq v).ind = s.ind := rfl
@[simp] theorem State.setReq_msg (v : Word) : (s.setReq v).msg = s.msg := rfl
@[simp] theorem State.setReq_fault (v : Word) : (s.setReq v).fault = s.fault := rfl
@[simp] theorem State.setReq_mem (v : Word) : (s.setReq v).mem = s.mem := rfl
@[simp] theorem State.setReq_cpBusy (v : Word) : (s.setReq v).cpBusy = s.cpBusy := rfl
@[simp] theorem State.setReq_cpEntry (v : Word) : (s.setReq v).cpEntry = s.cpEntry := rfl
@[simp] theorem State.setReq_cpScript (v : Word) : (s.setReq v).cpScript = s.cpScript := rfl
@[simp] theorem State.setReq_keyScript (v : Word) : (s.setReq v).keyScript = s.keyScript := rfl
@[simp] theorem State.setReq_drawn (v : Word) : (s.setReq v).drawn = s.drawn := rfl
@[simp] theorem State.setReq_trace (v : Word) : (s.setReq v).trace = s.trace := rfl

@[simp] theorem State.setCb_cfg (v : ControlBlock) : (s.setCb v).cfg = s.cfg := rfl
@[simp] theorem State.setCb_seq (v : ControlBlock) : (s.setCb v).seq = s.seq := rfl
@[simp] theorem State.setCb_capPresent (v : ControlBlock) : (s.setCb v).capPresent = s.capPresent := rfl
@[simp] theorem State.setCb_sb (v : ControlBlock) : (s.setCb v).sb = s.sb := rfl
@[simp] theorem State.setCb_req (v : ControlBlock) : (s.setCb v).req = s.req := rfl
@[simp] theorem State.setCb_cb (v : ControlBlock) : (s.setCb v).cb = v := rfl
@[simp] theorem State.setCb_tag (v : ControlBlock) : (s.setCb v).tag = s.tag := rfl
@[simp] theorem State.setCb_bankSel (v : ControlBlock) : (s.setCb v).bankSel = s.bankSel := rfl
@[simp] theorem State.setCb_ind (v : ControlBlock) : (s.setCb v).ind = s.ind := rfl
@[simp] theorem State.setCb_msg (v : ControlBlock) : (s.setCb v).msg = s.msg := rfl
@[simp] theorem State.setCb_fault (v : ControlBlock) : (s.setCb v).fault = s.fault := rfl
@[simp] theorem State.setCb_mem (v : ControlBlock) : (s.setCb v).mem = s.mem := rfl
@[simp] theorem State.setCb_cpBusy (v : ControlBlock) : (s.setCb v).cpBusy = s.cpBusy := rfl
@[simp] theorem State.setCb_cpEntry (v : ControlBlock) : (s.setCb v).cpEntry = s.cpEntry := rfl
@[simp] theorem State.setCb_cpScript (v : ControlBlock) : (s.setCb v).cpScript = s.cpScript := rfl
@[simp] theorem State.setCb_keyScript (v : ControlBlock) : (s.setCb v).keyScript = s.keyScript := rfl
@[simp] theorem State.setCb_drawn (v : ControlBlock) : (s.setCb v).drawn = s.drawn := rfl
@[simp] theorem State.setCb_trace (v : ControlBlock) : (s.setCb v).trace = s.trace := rfl

@[simp] theorem State.setTag_cfg (v : Tag) : (s.setTag v).cfg = s.cfg := rfl
@[simp] theorem State.setTag_seq (v : Tag) : (s.setTag v).seq = s.seq := rfl
@[simp] theorem State.setTag_capPresent (v : Tag) : (s.setTag v).capPresent = s.capPresent := rfl
@[simp] theorem State.setTag_sb (v : Tag) : (s.setTag v).sb = s.sb := rfl
@[simp] theorem State.setTag_req (v : Tag) : (s.setTag v).req = s.req := rfl
@[simp] theorem State.setTag_cb (v : Tag) : (s.setTag v).cb = s.cb := rfl
@[simp] theorem State.setTag_tag (v : Tag) : (s.setTag v).tag = v := rfl
@[simp] theorem State.setTag_bankSel (v : Tag) : (s.setTag v).bankSel = s.bankSel := rfl
@[simp] theorem State.setTag_ind (v : Tag) : (s.setTag v).ind = s.ind := rfl
@[simp] theorem State.setTag_msg (v : Tag) : (s.setTag v).msg = s.msg := rfl
@[simp] theorem State.setTag_fault (v : Tag) : (s.setTag v).fault = s.fault := rfl
@[simp] theorem State.setTag_mem (v : Tag) : (s.setTag v).mem = s.mem := rfl
@[simp] theorem State.setTag_cpBusy (v : Tag) : (s.setTag v).cpBusy = s.cpBusy := rfl
@[simp] theorem State.setTag_cpEntry (v : Tag) : (s.setTag v).cpEntry = s.cpEntry := rfl
@[simp] theorem State.setTag_cpScript (v : Tag) : (s.setTag v).cpScript = s.cpScript := rfl
@[simp] theorem State.setTag_keyScript (v : Tag) : (s.setTag v).keyScript = s.keyScript := rfl
@[simp] theorem State.setTag_drawn (v : Tag) : (s.setTag v).drawn = s.drawn := rfl
@[simp] theorem State.setTag_trace (v : Tag) : (s.setTag v).trace = s.trace := rfl

@[simp] theorem State.setBankSel_cfg (v : Nat) : (s.setBankSel v).cfg = s.cfg := rfl
@[simp] theorem State.setBankSel_seq (v : Nat) : (s.setBankSel v).seq = s.seq := rfl
@[simp] theorem State.setBankSel_capPresent (v : Nat) : (s.setBankSel v).capPresent = s.capPresent := rfl
@[simp] theorem State.setBankSel_sb (v : Nat) : (s.setBankSel v).sb = s.sb := rfl
@[simp] theorem State.setBankSel_req (v : Nat) : (s.setBankSel v).req = s.req := rfl
@[simp] theorem State.setBankSel_cb (v : Nat) : (s.setBankSel v).cb = s.cb := rfl
@[simp] theorem State.setBankSel_tag (v : Nat) : (s.setBankSel v).tag = s.tag := rfl
@[simp] theorem State.setBankSel_bankSel (v : Nat) : (s.setBankSel v).bankSel = v := rfl
@[simp] theorem State.setBankSel_ind (v : Nat) : (s.setBankSel v).ind = s.ind := rfl
@[simp] theorem State.setBankSel_msg (v : Nat) : (s.setBankSel v).msg = s.msg := rfl
@[simp] theorem State.setBankSel_fault (v : Nat) : (s.setBankSel v).fault = s.fault := rfl
@[simp] theorem State.setBankSel_mem (v : Nat) : (s.setBankSel v).mem = s.mem := rfl
@[simp] theorem State.setBankSel_cpBusy (v : Nat) : (s.setBankSel v).cpBusy = s.cpBusy := rfl
@[simp] theorem State.setBankSel_cpEntry (v : Nat) : (s.setBankSel v).cpEntry = s.cpEntry := rfl
@[simp] theorem State.setBankSel_cpScript (v : Nat) : (s.setBankSel v).cpScript = s.cpScript := rfl
@[simp] theorem State.setBankSel_keyScript (v : Nat) : (s.setBankSel v).keyScript = s.keyScript := rfl
@[simp] theorem State.setBankSel_drawn (v : Nat) : (s.setBankSel v).drawn = s.drawn := rfl
@[simp] theorem State.setBankSel_trace (v : Nat) : (s.setBankSel v).trace = s.trace := rfl

@[simp] theorem State.setInd_cfg (v : Indicator) : (s.setInd v).cfg = s.cfg := rfl
@[simp] theorem State.setInd_seq (v : Indicator) : (s.setInd v).seq = s.seq := rfl
@[simp] theorem State.setInd_capPresent (v : Indicator) : (s.setInd v).capPresent = s.capPresent := rfl
@[simp] theorem State.setInd_sb (v : Indicator) : (s.setInd v).sb = s.sb := rfl
@[simp] theorem State.setInd_req (v : Indicator) : (s.setInd v).req = s.req := rfl
@[simp] theorem State.setInd_cb (v : Indicator) : (s.setInd v).cb = s.cb := rfl
@[simp] theorem State.setInd_tag (v : Indicator) : (s.setInd v).tag = s.tag := rfl
@[simp] theorem State.setInd_bankSel (v : Indicator) : (s.setInd v).bankSel = s.bankSel := rfl
@[simp] theorem State.setInd_ind (v : Indicator) : (s.setInd v).ind = v := rfl
@[simp] theorem State.setInd_msg (v : Indicator) : (s.setInd v).msg = s.msg := rfl
@[simp] theorem State.setInd_fault (v : Indicator) : (s.setInd v).fault = s.fault := rfl
@[simp] theorem State.setInd_mem (v : Indicator) : (s.setInd v).mem = s.mem := rfl
@[simp] theorem State.setInd_cpBusy (v : Indicator) : (s.setInd v).cpBusy = s.cpBusy := rfl
@[simp] theorem State.setInd_cpEntry (v : Indicator) : (s.setInd v).cpEntry = s.cpEntry := rfl
@[simp] theorem State.setInd_cpScript (v : Indicator) : (s.setInd v).cpScript = s.cpScript := rfl
@[simp] theorem State.setInd_keyScript (v : Indicator) : (s.setInd v).keyScript = s.keyScript := rfl
@[simp] theorem State.setInd_drawn (v : Indicator) : (s.setInd v).drawn = s.drawn := rfl
@[simp] theorem State.setInd_trace (v : Indicator) : (s.setInd v).trace = s.trace := rfl

@[simp] theorem State.setMsg_cfg (v : Message) : (s.setMsg v).cfg = s.cfg := rfl
@[simp] theorem State.setMsg_seq (v : Message) : (s.setMsg v).seq = s.seq := rfl
@[simp] theorem State.setMsg_capPresent (v : Message) : (s.setMsg v).capPresent = s.capPresent := rfl
@[simp] theorem State.setMsg_sb (v : Message) : (s.setMsg v).sb = s.sb := rfl
@[simp] theorem State.setMsg_req (v : Message) : (s.setMsg v).req = s.req := rfl
@[simp] theorem State.setMsg_cb (v : Message) : (s.setMsg v).cb = s.cb := rfl
@[simp] theorem State.setMsg_tag (v : Message) : (s.setMsg v).tag = s.tag := rfl
@[simp] theorem State.setMsg_bankSel (v : Message) : (s.setMsg v).bankSel = s.bankSel := rfl
@[simp] theorem State.setMsg_ind (v : Message) : (s.setMsg v).ind = s.ind := rfl
@[simp] theorem State.setMsg_msg (v : Message) : (s.setMsg v).msg = v := rfl
@[simp] theorem State.setMsg_fault (v : Message) : (s.setMsg v).fault = s.fault := rfl
@[simp] theorem State.setMsg_mem (v : Message) : (s.setMsg v).mem = s.mem := rfl
@[simp] theorem State.setMsg_cpBusy (v : Message) : (s.setMsg v).cpBusy = s.cpBusy := rfl
@[simp] theorem State.setMsg_cpEntry (v : Message) : (s.setMsg v).cpEntry = s.cpEntry := rfl
@[simp] theorem State.setMsg_cpScript (v : Message) : (s.setMsg v).cpScript = s.cpScript := rfl
@[simp] theorem State.setMsg_keyScript (v : Message) : (s.setMsg v).keyScript = s.keyScript := rfl
@[simp] theorem State.setMsg_drawn (v : Message) : (s.setMsg v).drawn = s.drawn := rfl
@[simp] theorem State.setMsg_trace (v : Message) : (s.setMsg v).trace = s.trace := rfl

@[simp] theorem State.setFault_cfg (v : FaultReason) : (s.setFault v).cfg = s.cfg := rfl
@[simp] theorem State.setFault_seq (v : FaultReason) : (s.setFault v).seq = s.seq := rfl
@[simp] theorem State.setFault_capPresent (v : FaultReason) : (s.setFault v).capPresent = s.capPresent := rfl
@[simp] theorem State.setFault_sb (v : FaultReason) : (s.setFault v).sb = s.sb := rfl
@[simp] theorem State.setFault_req (v : FaultReason) : (s.setFault v).req = s.req := rfl
@[simp] theorem State.setFault_cb (v : FaultReason) : (s.setFault v).cb = s.cb := rfl
@[simp] theorem State.setFault_tag (v : FaultReason) : (s.setFault v).tag = s.tag := rfl
@[simp] theorem State.setFault_bankSel (v : FaultReason) : (s.setFault v).bankSel = s.bankSel := rfl
@[simp] theorem State.setFault_ind (v : FaultReason) : (s.setFault v).ind = s.ind := rfl
@[simp] theorem State.setFault_msg (v : FaultReason) : (s.setFault v).msg = s.msg := rfl
@[simp] theorem State.setFault_fault (v : FaultReason) : (s.setFault v).fault = v := rfl
@[simp] theorem State.setFault_mem (v : FaultReason) : (s.setFault v).mem = s.mem := rfl
@[simp] theorem State.setFault_cpBusy (v : FaultReason) : (s.setFault v).cpBusy = s.cpBusy := rfl
@[simp] theorem State.setFault_cpEntry (v : FaultReason) : (s.setFault v).cpEntry = s.cpEntry := rfl
@[simp] theorem State.setFault_cpScript (v : FaultReason) : (s.setFault v).cpScript = s.cpScript := rfl
@[simp] theorem State.setFault_keyScript (v : FaultReason) : (s.setFault v).keyScript = s.keyScript := rfl
@[simp] theorem State.setFault_drawn (v : FaultReason) : (s.setFault v).drawn = s.drawn := rfl
@[simp] theorem State.setFault_trace (v : FaultReason) : (s.setFault v).trace = s.trace := rfl

@[simp] theorem State.setMem_cfg (v : Memory) : (s.setMem v).cfg = s.cfg := rfl
@[simp] theorem State.setMem_seq (v : Memory) : (s.setMem v).seq = s.seq := rfl
@[simp] theorem State.setMem_capPresent (v : Memory) : (s.setMem v).capPresent = s.capPresent := rfl
@[simp] theorem State.setMem_sb (v : Memory) : (s.setMem v).sb = s.sb := rfl
@[simp] theorem State.setMem_req (v : Memory) : (s.setMem v).req = s.req := rfl
@[simp] theorem State.setMem_cb (v : Memory) : (s.setMem v).cb = s.cb := rfl
@[simp] theorem State.setMem_tag (v : Memory) : (s.setMem v).tag = s.tag := rfl
@[simp] theorem State.setMem_bankSel (v : Memory) : (s.setMem v).bankSel = s.bankSel := rfl
@[simp] theorem State.setMem_ind (v : Memory) : (s.setMem v).ind = s.ind := rfl
@[simp] theorem State.setMem_msg (v : Memory) : (s.setMem v).msg = s.msg := rfl
@[simp] theorem State.setMem_fault (v : Memory) : (s.setMem v).fault = s.fault := rfl
@[simp] theorem State.setMem_mem (v : Memory) : (s.setMem v).mem = v := rfl
@[simp] theorem State.setMem_cpBusy (v : Memory) : (s.setMem v).cpBusy = s.cpBusy := rfl
@[simp] theorem State.setMem_cpEntry (v : Memory) : (s.setMem v).cpEntry = s.cpEntry := rfl
@[simp] theorem State.setMem_cpScript (v : Memory) : (s.setMem v).cpScript = s.cpScript := rfl
@[simp] theorem State.setMem_keyScript (v : Memory) : (s.setMem v).keyScript = s.keyScript := rfl
@[simp] theorem State.setMem_drawn (v : Memory) : (s.setMem v).drawn = s.drawn := rfl
@[simp] theorem State.setMem_trace (v : Memory) : (s.setMem v).trace = s.trace := rfl

@[simp] theorem State.setCpBusy_cfg (v : Bool) : (s.setCpBusy v).cfg = s.cfg := rfl
@[simp] theorem State.setCpBusy_seq (v : Bool) : (s.setCpBusy v).seq = s.seq := rfl
@[simp] theorem State.setCpBusy_capPresent (v : Bool) : (s.setCpBusy v).capPresent = s.capPresent := rfl
@[simp] theorem State.setCpBusy_sb (v : Bool) : (s.setCpBusy v).sb = s.sb := rfl
@[simp] theorem State.setCpBusy_req (v : Bool) : (s.setCpBusy v).req = s.req := rfl
@[simp] theorem State.setCpBusy_cb (v : Bool) : (s.setCpBusy v).cb = s.cb := rfl
@[simp] theorem State.setCpBusy_tag (v : Bool) : (s.setCpBusy v).tag = s.tag := rfl
@[simp] theorem State.setCpBusy_bankSel (v : Bool) : (s.setCpBusy v).bankSel = s.bankSel := rfl
@[simp] theorem State.setCpBusy_ind (v : Bool) : (s.setCpBusy v).ind = s.ind := rfl
@[simp] theorem State.setCpBusy_msg (v : Bool) : (s.setCpBusy v).msg = s.msg := rfl
@[simp] theorem State.setCpBusy_fault (v : Bool) : (s.setCpBusy v).fault = s.fault := rfl
@[simp] theorem State.setCpBusy_mem (v : Bool) : (s.setCpBusy v).mem = s.mem := rfl
@[simp] theorem State.setCpBusy_cpBusy (v : Bool) : (s.setCpBusy v).cpBusy = v := rfl
@[simp] theorem State.setCpBusy_cpEntry (v : Bool) : (s.setCpBusy v).cpEntry = s.cpEntry := rfl
@[simp] theorem State.setCpBusy_cpScript (v : Bool) : (s.setCpBusy v).cpScript = s.cpScript := rfl
@[simp] theorem State.setCpBusy_keyScript (v : Bool) : (s.setCpBusy v).keyScript = s.keyScript := rfl
@[simp] theorem State.setCpBusy_drawn (v : Bool) : (s.setCpBusy v).drawn = s.drawn := rfl
@[simp] theorem State.setCpBusy_trace (v : Bool) : (s.setCpBusy v).trace = s.trace := rfl

@[simp] theorem State.setCpEntry_cfg (v : Nat) : (s.setCpEntry v).cfg = s.cfg := rfl
@[simp] theorem State.setCpEntry_seq (v : Nat) : (s.setCpEntry v).seq = s.seq := rfl
@[simp] theorem State.setCpEntry_capPresent (v : Nat) : (s.setCpEntry v).capPresent = s.capPresent := rfl
@[simp] theorem State.setCpEntry_sb (v : Nat) : (s.setCpEntry v).sb = s.sb := rfl
@[simp] theorem State.setCpEntry_req (v : Nat) : (s.setCpEntry v).req = s.req := rfl
@[simp] theorem State.setCpEntry_cb (v : Nat) : (s.setCpEntry v).cb = s.cb := rfl
@[simp] theorem State.setCpEntry_tag (v : Nat) : (s.setCpEntry v).tag = s.tag := rfl
@[simp] theorem State.setCpEntry_bankSel (v : Nat) : (s.setCpEntry v).bankSel = s.bankSel := rfl
@[simp] theorem State.setCpEntry_ind (v : Nat) : (s.setCpEntry v).ind = s.ind := rfl
@[simp] theorem State.setCpEntry_msg (v : Nat) : (s.setCpEntry v).msg = s.msg := rfl
@[simp] theorem State.setCpEntry_fault (v : Nat) : (s.setCpEntry v).fault = s.fault := rfl
@[simp] theorem State.setCpEntry_mem (v : Nat) : (s.setCpEntry v).mem = s.mem := rfl
@[simp] theorem State.setCpEntry_cpBusy (v : Nat) : (s.setCpEntry v).cpBusy = s.cpBusy := rfl
@[simp] theorem State.setCpEntry_cpEntry (v : Nat) : (s.setCpEntry v).cpEntry = v := rfl
@[simp] theorem State.setCpEntry_cpScript (v : Nat) : (s.setCpEntry v).cpScript = s.cpScript := rfl
@[simp] theorem State.setCpEntry_keyScript (v : Nat) : (s.setCpEntry v).keyScript = s.keyScript := rfl
@[simp] theorem State.setCpEntry_drawn (v : Nat) : (s.setCpEntry v).drawn = s.drawn := rfl
@[simp] theorem State.setCpEntry_trace (v : Nat) : (s.setCpEntry v).trace = s.trace := rfl

@[simp] theorem State.setCpScript_cfg (v : List CpMove) : (s.setCpScript v).cfg = s.cfg := rfl
@[simp] theorem State.setCpScript_seq (v : List CpMove) : (s.setCpScript v).seq = s.seq := rfl
@[simp] theorem State.setCpScript_capPresent (v : List CpMove) : (s.setCpScript v).capPresent = s.capPresent := rfl
@[simp] theorem State.setCpScript_sb (v : List CpMove) : (s.setCpScript v).sb = s.sb := rfl
@[simp] theorem State.setCpScript_req (v : List CpMove) : (s.setCpScript v).req = s.req := rfl
@[simp] theorem State.setCpScript_cb (v : List CpMove) : (s.setCpScript v).cb = s.cb := rfl
@[simp] theorem State.setCpScript_tag (v : List CpMove) : (s.setCpScript v).tag = s.tag := rfl
@[simp] theorem State.setCpScript_bankSel (v : List CpMove) : (s.setCpScript v).bankSel = s.bankSel := rfl
@[simp] theorem State.setCpScript_ind (v : List CpMove) : (s.setCpScript v).ind = s.ind := rfl
@[simp] theorem State.setCpScript_msg (v : List CpMove) : (s.setCpScript v).msg = s.msg := rfl
@[simp] theorem State.setCpScript_fault (v : List CpMove) : (s.setCpScript v).fault = s.fault := rfl
@[simp] theorem State.setCpScript_mem (v : List CpMove) : (s.setCpScript v).mem = s.mem := rfl
@[simp] theorem State.setCpScript_cpBusy (v : List CpMove) : (s.setCpScript v).cpBusy = s.cpBusy := rfl
@[simp] theorem State.setCpScript_cpEntry (v : List CpMove) : (s.setCpScript v).cpEntry = s.cpEntry := rfl
@[simp] theorem State.setCpScript_cpScript (v : List CpMove) : (s.setCpScript v).cpScript = v := rfl
@[simp] theorem State.setCpScript_keyScript (v : List CpMove) : (s.setCpScript v).keyScript = s.keyScript := rfl
@[simp] theorem State.setCpScript_drawn (v : List CpMove) : (s.setCpScript v).drawn = s.drawn := rfl
@[simp] theorem State.setCpScript_trace (v : List CpMove) : (s.setCpScript v).trace = s.trace := rfl

@[simp] theorem State.setKeyScript_cfg (v : List Byte) : (s.setKeyScript v).cfg = s.cfg := rfl
@[simp] theorem State.setKeyScript_seq (v : List Byte) : (s.setKeyScript v).seq = s.seq := rfl
@[simp] theorem State.setKeyScript_capPresent (v : List Byte) : (s.setKeyScript v).capPresent = s.capPresent := rfl
@[simp] theorem State.setKeyScript_sb (v : List Byte) : (s.setKeyScript v).sb = s.sb := rfl
@[simp] theorem State.setKeyScript_req (v : List Byte) : (s.setKeyScript v).req = s.req := rfl
@[simp] theorem State.setKeyScript_cb (v : List Byte) : (s.setKeyScript v).cb = s.cb := rfl
@[simp] theorem State.setKeyScript_tag (v : List Byte) : (s.setKeyScript v).tag = s.tag := rfl
@[simp] theorem State.setKeyScript_bankSel (v : List Byte) : (s.setKeyScript v).bankSel = s.bankSel := rfl
@[simp] theorem State.setKeyScript_ind (v : List Byte) : (s.setKeyScript v).ind = s.ind := rfl
@[simp] theorem State.setKeyScript_msg (v : List Byte) : (s.setKeyScript v).msg = s.msg := rfl
@[simp] theorem State.setKeyScript_fault (v : List Byte) : (s.setKeyScript v).fault = s.fault := rfl
@[simp] theorem State.setKeyScript_mem (v : List Byte) : (s.setKeyScript v).mem = s.mem := rfl
@[simp] theorem State.setKeyScript_cpBusy (v : List Byte) : (s.setKeyScript v).cpBusy = s.cpBusy := rfl
@[simp] theorem State.setKeyScript_cpEntry (v : List Byte) : (s.setKeyScript v).cpEntry = s.cpEntry := rfl
@[simp] theorem State.setKeyScript_cpScript (v : List Byte) : (s.setKeyScript v).cpScript = s.cpScript := rfl
@[simp] theorem State.setKeyScript_keyScript (v : List Byte) : (s.setKeyScript v).keyScript = v := rfl
@[simp] theorem State.setKeyScript_drawn (v : List Byte) : (s.setKeyScript v).drawn = s.drawn := rfl
@[simp] theorem State.setKeyScript_trace (v : List Byte) : (s.setKeyScript v).trace = s.trace := rfl

@[simp] theorem State.setDrawn_cfg (v : Nat) : (s.setDrawn v).cfg = s.cfg := rfl
@[simp] theorem State.setDrawn_seq (v : Nat) : (s.setDrawn v).seq = s.seq := rfl
@[simp] theorem State.setDrawn_capPresent (v : Nat) : (s.setDrawn v).capPresent = s.capPresent := rfl
@[simp] theorem State.setDrawn_sb (v : Nat) : (s.setDrawn v).sb = s.sb := rfl
@[simp] theorem State.setDrawn_req (v : Nat) : (s.setDrawn v).req = s.req := rfl
@[simp] theorem State.setDrawn_cb (v : Nat) : (s.setDrawn v).cb = s.cb := rfl
@[simp] theorem State.setDrawn_tag (v : Nat) : (s.setDrawn v).tag = s.tag := rfl
@[simp] theorem State.setDrawn_bankSel (v : Nat) : (s.setDrawn v).bankSel = s.bankSel := rfl
@[simp] theorem State.setDrawn_ind (v : Nat) : (s.setDrawn v).ind = s.ind := rfl
@[simp] theorem State.setDrawn_msg (v : Nat) : (s.setDrawn v).msg = s.msg := rfl
@[simp] theorem State.setDrawn_fault (v : Nat) : (s.setDrawn v).fault = s.fault := rfl
@[simp] theorem State.setDrawn_mem (v : Nat) : (s.setDrawn v).mem = s.mem := rfl
@[simp] theorem State.setDrawn_cpBusy (v : Nat) : (s.setDrawn v).cpBusy = s.cpBusy := rfl
@[simp] theorem State.setDrawn_cpEntry (v : Nat) : (s.setDrawn v).cpEntry = s.cpEntry := rfl
@[simp] theorem State.setDrawn_cpScript (v : Nat) : (s.setDrawn v).cpScript = s.cpScript := rfl
@[simp] theorem State.setDrawn_keyScript (v : Nat) : (s.setDrawn v).keyScript = s.keyScript := rfl
@[simp] theorem State.setDrawn_drawn (v : Nat) : (s.setDrawn v).drawn = v := rfl
@[simp] theorem State.setDrawn_trace (v : Nat) : (s.setDrawn v).trace = s.trace := rfl

@[simp] theorem State.record_cfg (v : Event) : (s.record v).cfg = s.cfg := rfl
@[simp] theorem State.record_seq (v : Event) : (s.record v).seq = s.seq := rfl
@[simp] theorem State.record_capPresent (v : Event) : (s.record v).capPresent = s.capPresent := rfl
@[simp] theorem State.record_sb (v : Event) : (s.record v).sb = s.sb := rfl
@[simp] theorem State.record_req (v : Event) : (s.record v).req = s.req := rfl
@[simp] theorem State.record_cb (v : Event) : (s.record v).cb = s.cb := rfl
@[simp] theorem State.record_tag (v : Event) : (s.record v).tag = s.tag := rfl
@[simp] theorem State.record_bankSel (v : Event) : (s.record v).bankSel = s.bankSel := rfl
@[simp] theorem State.record_ind (v : Event) : (s.record v).ind = s.ind := rfl
@[simp] theorem State.record_msg (v : Event) : (s.record v).msg = s.msg := rfl
@[simp] theorem State.record_fault (v : Event) : (s.record v).fault = s.fault := rfl
@[simp] theorem State.record_mem (v : Event) : (s.record v).mem = s.mem := rfl
@[simp] theorem State.record_cpBusy (v : Event) : (s.record v).cpBusy = s.cpBusy := rfl
@[simp] theorem State.record_cpEntry (v : Event) : (s.record v).cpEntry = s.cpEntry := rfl
@[simp] theorem State.record_cpScript (v : Event) : (s.record v).cpScript = s.cpScript := rfl
@[simp] theorem State.record_keyScript (v : Event) : (s.record v).keyScript = s.keyScript := rfl
@[simp] theorem State.record_drawn (v : Event) : (s.record v).drawn = s.drawn := rfl
@[simp] theorem State.record_trace (v : Event) : (s.record v).trace = s.trace ++ [v] := rfl

end Sys2Proof.Machine
end

