-- ==== Sys2Proof/Laws/Ops.lean ====
section
/-! SUPPORT. One lemma for each shared operation that says everything it can do; proofs about the meanings cite these and do not
unfold the operations. -/

namespace Sys2Proof.Machine

@[simp] theorem inRange_iff (s : State) (a n : Nat) : inRange s a n = true ↔ a + n ≤ s.cfg.cpMemSize := by
  simp [inRange]

/-- A read either lies in co-processor memory and goes on with its bytes, or raises CP_RANGE. -/
theorem memRead_elim {P : State → Prop} {a n : Nat} {s : State} {k : List Byte → State → State}
    (inside : a + n ≤ s.cfg.cpMemSize → P (k (s.mem.readBytes a n) (s.record (.memRead a (s.mem.readBytes a n)))))
    (outside : s.cfg.cpMemSize < a + n → P (raiseFault .cpRange s)) : P (memRead a n s k) := by
  unfold memRead
  split
  · exact inside ((inRange_iff s a n).1 ‹_›)
  · exact outside (by simp_all [inRange])

/-- A write either lies in co-processor memory and goes on, or raises CP_RANGE. -/
theorem memWrite_elim {P : State → Prop} {a : Nat} {bs : List Byte} {s : State} {k : State → State}
    (inside : a + bs.length ≤ s.cfg.cpMemSize → P (k ((s.setMem (s.mem.writeBytes a bs)).record (.memWrite a bs))))
    (outside : s.cfg.cpMemSize < a + bs.length → P (raiseFault .cpRange s)) : P (memWrite a bs s k) := by
  unfold memWrite
  split
  · exact inside ((inRange_iff s a bs.length).1 ‹_›)
  · exact outside (by simp_all [inRange])

theorem memRead_inside {a n : Nat} {s : State} {k : List Byte → State → State} (h : a + n ≤ s.cfg.cpMemSize) :
    memRead a n s k = k (s.mem.readBytes a n) (s.record (.memRead a (s.mem.readBytes a n))) := by
  simp [memRead, inRange, h]

theorem memRead_outside {a n : Nat} {s : State} {k : List Byte → State → State} (h : s.cfg.cpMemSize < a + n) :
    memRead a n s k = raiseFault .cpRange s := by
  simp [memRead, inRange, Nat.not_le.2 h]

theorem fetchBytes_inside {a n : Nat} {s : State} {k : List Byte → State → Host.Outcome State Fault Refusal}
    (h : a + n ≤ s.cfg.cpMemSize) :
    fetchBytes a n s k = k (s.mem.readBytes a n) (s.record (.memRead a (s.mem.readBytes a n))) := by
  simp [fetchBytes, inRange, h]

theorem fetchBytes_outside {a n : Nat} {s : State} {k : List Byte → State → Host.Outcome State Fault Refusal}
    (h : s.cfg.cpMemSize < a + n) : fetchBytes a n s k = .next (raiseFault .cpRange s) := by
  simp [fetchBytes, inRange, Nat.not_le.2 h]

/-- A fetch whose bytes may allow no next state either lies in co-processor memory and goes on with its bytes, or raises
CP_RANGE. -/
theorem fetchBytes_elim {P : Host.Outcome State Fault Refusal → Prop} {a n : Nat} {s : State}
    {k : List Byte → State → Host.Outcome State Fault Refusal}
    (inside : a + n ≤ s.cfg.cpMemSize → P (k (s.mem.readBytes a n) (s.record (.memRead a (s.mem.readBytes a n)))))
    (outside : s.cfg.cpMemSize < a + n → P (.next (raiseFault .cpRange s))) : P (fetchBytes a n s k) := by
  rcases Nat.lt_or_ge s.cfg.cpMemSize (a + n) with h | h
  · rw [fetchBytes_outside h]; exact outside h
  · rw [fetchBytes_inside h]; exact inside h

theorem memWrite_inside {a : Nat} {bs : List Byte} {s : State} {k : State → State} (h : a + bs.length ≤ s.cfg.cpMemSize) :
    memWrite a bs s k = k ((s.setMem (s.mem.writeBytes a bs)).record (.memWrite a bs)) := by
  simp [memWrite, inRange, h]

theorem memWrite_outside {a : Nat} {bs : List Byte} {s : State} {k : State → State} (h : s.cfg.cpMemSize < a + bs.length) :
    memWrite a bs s k = raiseFault .cpRange s := by
  simp [memWrite, inRange, Nat.not_le.2 h]

/-- Raising a fault changes the fault latch and the sequencer, nothing else. -/
theorem raiseFault_eq (r : FaultReason) (s : State) : raiseFault r s = { s with fault := r, seq := .fault } := rfl

theorem switchBank_eq (b : Nat) (s : State) :
    switchBank b s = { s with bankSel := b, trace := s.trace ++ [.switchBank b] } := rfl

theorem cpStart_eq (a : Nat) (s : State) :
    cpStart a s = { s with cpEntry := a, cpBusy := true, trace := s.trace ++ [.cpStart a] } := rfl

theorem cpContinue_eq (s : State) : cpContinue s = { s with cpBusy := true, trace := s.trace ++ [.cpContinue] } := rfl

theorem resume_eq (s : State) :
    resume s = { s with cpBusy := true, seq := .running, trace := s.trace ++ [.cpContinue] } := rfl

theorem enterHaltSuccess_eq (s : State) : enterHaltSuccess s =
    { s with ind := .success, seq := .haltSuccess, trace := s.trace ++ [.emit .indSuccess] } := rfl

theorem enterHaltFailure_eq (s : State) : enterHaltFailure s =
    { s with ind := .failure, seq := .haltFailure, trace := s.trace ++ [.emit .indFailure] } := rfl

@[simp] theorem ControlBlock.bytes_length (b : ControlBlock) : b.bytes.length = 10 := rfl

/-- A write-back in range stores the ten latch bytes and ends the service. -/
theorem writeBack_inside {s : State} (h : s.req.toNat + 10 ≤ s.cfg.cpMemSize) : writeBack s =
    { s with mem := s.mem.writeBytes s.req.toNat s.cb.bytes, cpBusy := true, seq := .running,
             trace := s.trace ++ [.memWrite s.req.toNat s.cb.bytes, .cpContinue] } := by
  rw [writeBack, memWrite_inside (by simpa using h), resume_eq]
  simp [State.record, State.setMem]

/-- A write-back out of range raises CP_RANGE. -/
theorem writeBack_outside {s : State} (h : s.cfg.cpMemSize < s.req.toNat + 10) :
    writeBack s = raiseFault .cpRange s := by
  rw [writeBack, memWrite_outside (by simpa using h)]

theorem writeBack_elim {P : State → Prop} {s : State}
    (inside : s.req.toNat + 10 ≤ s.cfg.cpMemSize →
      P { s with mem := s.mem.writeBytes s.req.toNat s.cb.bytes, cpBusy := true, seq := .running,
                 trace := s.trace ++ [.memWrite s.req.toNat s.cb.bytes, .cpContinue] })
    (outside : s.cfg.cpMemSize < s.req.toNat + 10 → P (raiseFault .cpRange s)) : P (writeBack s) := by
  by_cases h : s.req.toNat + 10 ≤ s.cfg.cpMemSize
  · rw [writeBack_inside h]; exact inside h
  · rw [writeBack_outside (by omega)]; exact outside (by omega)

@[simp] theorem romBytes_length (c : Config) (bank off n : Nat) : (romBytes c bank off n).length = n := by
  simp [romBytes]

/-- A halted co-processor does nothing between two handler steps (60_exceptions.md R214). -/
theorem cpTurn_halted {s : State} (h : s.cpBusy = false) : cpTurn s = s := by simp [cpTurn, h]

/-- A running co-processor makes its next move. -/
theorem cpTurn_running {s : State} (h : s.cpBusy = true) : cpTurn s =
    { s with mem := cpWrites s.cfg.cpMemSize s.mem (nextCpMove s).writes, cpBusy := !(nextCpMove s).halts,
             cpScript := s.cpScript.tail, drawn := s.drawn + 1 } := by
  simp [cpTurn, h, State.setMem, State.setCpBusy, State.setCpScript, State.setDrawn]

/-- The fields the co-processor's turn never touches. -/
theorem cpTurn_keeps (s : State) : (cpTurn s).cfg = s.cfg ∧ (cpTurn s).seq = s.seq ∧ (cpTurn s).capPresent = s.capPresent ∧
    (cpTurn s).sb = s.sb ∧ (cpTurn s).req = s.req ∧ (cpTurn s).cb = s.cb ∧ (cpTurn s).tag = s.tag ∧
    (cpTurn s).bankSel = s.bankSel ∧ (cpTurn s).ind = s.ind ∧ (cpTurn s).msg = s.msg ∧ (cpTurn s).fault = s.fault ∧
    (cpTurn s).cpEntry = s.cpEntry ∧ (cpTurn s).keyScript = s.keyScript ∧ (cpTurn s).trace = s.trace := by
  unfold cpTurn; split <;> simp

/-- Forwarding a key with INPUT_ADDR in range polls one, writes it and goes on (40_supervisor.md R117). -/
theorem forwardKey_inside {s : State} {k : State → State} (h : s.cfg.inputAddr < s.cfg.cpMemSize) : forwardKey s k = k { s with
    mem := s.mem.write s.cfg.inputAddr (nextKey s), keyScript := s.keyScript.tail, drawn := s.drawn + 1,
    trace := s.trace ++ [.pollKey (nextKey s), .memWrite s.cfg.inputAddr [nextKey s]] } := by
  unfold forwardKey pollKey; beta_reduce
  rw [memWrite_inside (by simpa using h)]
  simp [State.setMem, State.record, State.setKeyScript, State.setDrawn, Memory.writeBytes]

/-- Forwarding a key with INPUT_ADDR out of range polls one and raises CP_RANGE (R117). -/
theorem forwardKey_outside {s : State} {k : State → State} (h : s.cfg.cpMemSize ≤ s.cfg.inputAddr) : forwardKey s k = { s with
    keyScript := s.keyScript.tail, drawn := s.drawn + 1, trace := s.trace ++ [.pollKey (nextKey s)],
    fault := .cpRange, seq := .fault } := by
  unfold forwardKey pollKey; beta_reduce
  rw [memWrite_outside (by simpa using Nat.lt_succ_of_le h)]
  rfl

/-- The DISPATCH state of a status block (30_encoding.md R82). -/
theorem dispatchSeq_dispatch (b : StatusBlock) : dispatchSeq b.dispatch =
    if b.result ≠ 0 then .dispatchError else if b.request ≠ 0 then .dispatchStorage else .dispatchSuccess := by
  unfold StatusBlock.dispatch; split <;> [rfl; (split <;> rfl)]

/-- Ten bytes are a control block (30_encoding.md R94). -/
theorem ControlBlock.ofBytes_readBytes (m : Memory) (a : Nat) : ControlBlock.ofBytes (m.readBytes a 10) =
    some { opc := m.read a, err := m.read (a + 1), buf := be16 (m.read (a + 2)) (m.read (a + 3)), rlen := m.read (a + 4),
           retlen := m.read (a + 5), recNo := be16 (m.read (a + 6)) (m.read (a + 7)), x8 := m.read (a + 8),
           x9 := m.read (a + 9) } := by
  simp [Memory.readBytes, ControlBlock.ofBytes, Nat.add_assoc]

/-- Eight bytes are a status block (30_encoding.md R80). -/
theorem StatusBlock.ofBytes_readBytes (m : Memory) (a : Nat) : StatusBlock.ofBytes (m.readBytes a 8) =
    some ⟨be16 (m.read a) (m.read (a + 1)), be16 (m.read (a + 2)) (m.read (a + 3)), be16 (m.read (a + 4)) (m.read (a + 5)),
      be16 (m.read (a + 6)) (m.read (a + 7))⟩ := by
  simp [Memory.readBytes, StatusBlock.ofBytes, Nat.add_assoc]

/-- Only ten bytes are a control block (30_encoding.md R84; log 33). -/
theorem ControlBlock.ofBytes_eq_none {bs : List Byte} (h : bs.length ≠ 10) : ControlBlock.ofBytes bs = none := by
  unfold ControlBlock.ofBytes; split <;> simp_all

/-- Only eight bytes are a status block (30_encoding.md R80; log 33). -/
theorem StatusBlock.ofBytes_eq_none {bs : List Byte} (h : bs.length ≠ 8) : StatusBlock.ofBytes bs = none := by
  unfold StatusBlock.ofBytes; split <;> simp_all

/-- A control block decodes to a request, never to a status-block class (log 31). -/
theorem ControlBlock.request_format (k : Consts) (b : ControlBlock) : (b.request k).format = .control := by
  unfold ControlBlock.request; split <;> [rfl; (split <;> [rfl; (split <;> rfl)])]

/-- On a request the service is exec of it. -/
theorem runRequest_eq_exec {i : Instr} (h : i.format = .control) (s : State) : runRequest i s = exec i s := by
  cases i <;> first | rfl | simp [Instr.format] at h

end Sys2Proof.Machine
end

