-- ==== Sys2Proof/Laws/Decode.lean ====
section
/-! SUPPORT. The small lemmas of decoding and encoding: byte order, block parsing, and which class a block is. -/

namespace Sys2Proof

@[simp] theorem be16_hiByte_loByte (v : Word) : be16 (hiByte v) (loByte v) = v := by
  unfold be16 hiByte loByte; ext i; simp; grind

@[simp] theorem hiByte_be16 (a b : Byte) : hiByte (be16 a b) = a := by
  unfold be16 hiByte; ext i; simp; grind

@[simp] theorem loByte_be16 (a b : Byte) : loByte (be16 a b) = b := by
  unfold be16 loByte; ext i; simp; grind

/-- The bytes of a parsed control block are the bytes it was parsed from. -/
theorem ControlBlock.bytes_of_ofBytes {bs : List Byte} {b : ControlBlock} (h : ControlBlock.ofBytes bs = some b) :
    b.bytes = bs := by
  unfold ControlBlock.ofBytes at h
  split at h <;> cases h
  simp [ControlBlock.bytes]

@[simp] theorem ControlBlock.ofBytes_bytes (b : ControlBlock) : ControlBlock.ofBytes b.bytes = some b := by
  simp [ControlBlock.bytes, ControlBlock.ofBytes]

/-- The bytes of a parsed status block are the bytes it was parsed from. -/
theorem StatusBlock.bytes_of_ofBytes {bs : List Byte} {b : StatusBlock} (h : StatusBlock.ofBytes bs = some b) :
    b.bytes = bs := by
  unfold StatusBlock.ofBytes at h
  split at h <;> cases h
  simp [StatusBlock.bytes]

@[simp] theorem StatusBlock.ofBytes_bytes (b : StatusBlock) : StatusBlock.ofBytes b.bytes = some b := by
  simp [StatusBlock.bytes, StatusBlock.ofBytes]

theorem ControlBlock.request_close {k : Consts} {b : ControlBlock} (h : b.opc = k.opClose) :
    b.request k = .closeReq b.toRequestFields := by simp [ControlBlock.request, h]

theorem ControlBlock.request_read {k : Consts} {b : ControlBlock} (hc : b.opc ≠ k.opClose) (h : b.opc = k.opRead) :
    b.request k = .readReq b.toRequestFields := by rw [ControlBlock.request, if_neg hc, if_pos h]

theorem ControlBlock.request_open {k : Consts} {b : ControlBlock} (hc : b.opc ≠ k.opClose) (hr : b.opc ≠ k.opRead)
    (h : b.opc = k.opOpen) : b.request k = .openReq b.toRequestFields := by
  rw [ControlBlock.request, if_neg hc, if_neg hr, if_pos h]

theorem ControlBlock.request_invalid {k : Consts} {b : ControlBlock} (hc : b.opc ≠ k.opClose) (hr : b.opc ≠ k.opRead)
    (ho : b.opc ≠ k.opOpen) : b.request k = .invalidReq b.opc b.toRequestFields := by
  rw [ControlBlock.request, if_neg hc, if_neg hr, if_neg ho]

theorem StatusBlock.dispatch_error {b : StatusBlock} (h : b.result ≠ 0) :
    b.dispatch = .error b.result b.request b.computed b.expected := by rw [StatusBlock.dispatch, if_pos h]

theorem StatusBlock.dispatch_storage {b : StatusBlock} (h : b.result = 0) (hr : b.request ≠ 0) :
    b.dispatch = .storage b.request b.computed b.expected := by
  rw [StatusBlock.dispatch, if_neg (not_not.2 h), if_pos hr]

theorem StatusBlock.dispatch_success {b : StatusBlock} (h : b.result = 0) (hr : b.request = 0) :
    b.dispatch = .success b.computed b.expected := by
  rw [StatusBlock.dispatch, if_neg (not_not.2 h), if_neg (not_not.2 hr)]

end Sys2Proof
end

