-- ==== Sys2Proof/Laws/PerInstr.lean ====
section
/-! SUPPORT. The per-instruction family EncodeLength: an instruction encodes to the length of its wire format, 10 bytes for a
control block and 8 for a status block (30_encoding.md R80, R84). -/

namespace Sys2Proof.Laws.EncodeLength

/-- The encoding of i has the length of its format, under any opcode constants. -/
def Statement (i : Instr) : Prop :=
  ∀ k : Consts, (encode k i).length = match i.format with
    | .control => 10
    | .status => 8

theorem openReq (f : RequestFields) : Statement (.openReq f) := fun _ => rfl

theorem closeReq (f : RequestFields) : Statement (.closeReq f) := fun _ => rfl

theorem readReq (f : RequestFields) : Statement (.readReq f) := fun _ => rfl

theorem invalidReq (opc : Byte) (f : RequestFields) : Statement (.invalidReq opc f) := fun _ => rfl

theorem success (computed expected : Word) : Statement (.success computed expected) := fun _ => rfl

theorem storage (request computed expected : Word) : Statement (.storage request computed expected) := fun _ => rfl

theorem error (result request computed expected : Word) : Statement (.error result request computed expected) := fun _ => rfl

end Sys2Proof.Laws.EncodeLength
end

