-- ==== Sys2Proof/Laws/Service.lean ====
section
/-! SUPPORT. The inversion of the storage service: what any request can have done when it ends, said once. `Serving s t` holds of
the states t inside a service that began at s; every transaction of a service keeps it; `ServiceEnd s t` holds of the state
the service ends in. -/

namespace Sys2Proof.Machine

/-- The events a service records: accesses inside co-processor memory, bank switches and ROM reads. -/
def Event.ofService (size : Nat) : Event → Prop
  | .memRead a bytes => a + bytes.length ≤ size
  | .memWrite a bytes => a + bytes.length ≤ size
  | .switchBank _ => True
  | .romRead _ _ => True
  | .cpStart _ => False
  | .cpContinue => False
  | .cpBusy _ => False
  | .pollKey _ => False
  | .emit _ => False

theorem Event.ofService_within {size : Nat} {e : Event} (h : e.ofService size) : e.withinMemory size = true := by
  cases e <;> simp_all [Event.ofService, Event.withinMemory]

/-- t is a state inside a service that began at s. -/
structure Serving (s t : State) : Prop where
  keeps : t = { s with cb := t.cb, tag := t.tag, bankSel := t.bankSel, mem := t.mem, trace := t.trace }
  bank : t.bankSel = s.bankSel ∨ ∃ file n off, translateRecord s.cfg file n = some (t.bankSel, off)
  wf : Memory.wf s.mem = true → Memory.wf t.mem = true
  inside : (∀ c ∈ s.mem, c.1 < s.cfg.cpMemSize) → ∀ c ∈ t.mem, c.1 < s.cfg.cpMemSize
  trace : ∃ es, t.trace = s.trace ++ es ∧ ∀ e ∈ es, Event.ofService s.cfg.cpMemSize e

namespace Serving

theorem refl (s : State) : Serving s s := ⟨rfl, .inl rfl, id, id, [], by simp⟩

variable {s t : State}

theorem cfg (h : Serving s t) : t.cfg = s.cfg := by rw [h.keeps]

theorem req (h : Serving s t) : t.req = s.req := by rw [h.keeps]

theorem setCb (h : Serving s t) (b : ControlBlock) : Serving s (t.setCb b) :=
  ⟨by rw [h.keeps]; rfl, h.bank, h.wf, h.inside, h.trace⟩

theorem setTag (h : Serving s t) (g : Tag) : Serving s (t.setTag g) :=
  ⟨by rw [h.keeps]; rfl, h.bank, h.wf, h.inside, h.trace⟩

theorem record (h : Serving s t) {e : Event} (he : e.ofService s.cfg.cpMemSize) : Serving s (t.record e) := by
  refine ⟨by rw [h.keeps]; rfl, h.bank, h.wf, h.inside, ?_⟩
  obtain ⟨es, h1, h2⟩ := h.trace
  refine ⟨es ++ [e], by simp [h1], fun x hx => ?_⟩
  rcases List.mem_append.1 hx with hx | hx
  · exact h2 x hx
  · rw [List.mem_singleton.1 hx]; exact he

theorem setBankSel (h : Serving s t) {file : VirtualFile} {n bank off : Nat}
    (hb : translateRecord s.cfg file n = some (bank, off)) : Serving s (t.setBankSel bank) :=
  ⟨by rw [h.keeps]; rfl, .inr ⟨file, n, off, hb⟩, h.wf, h.inside, h.trace⟩

theorem switchBank (h : Serving s t) {file : VirtualFile} {n bank off : Nat}
    (hb : translateRecord s.cfg file n = some (bank, off)) : Serving s (switchBank bank t) :=
  (h.setBankSel hb).record (e := .switchBank bank) trivial

theorem writeBytes (h : Serving s t) {a : Nat} {bs : List Byte} (hr : a + bs.length ≤ s.cfg.cpMemSize) :
    Serving s (t.setMem (t.mem.writeBytes a bs)) := by
  refine ⟨by rw [h.keeps]; rfl, h.bank, fun hw => Memory.writeBytes_wf (h.wf hw) a bs, fun hi c hc => ?_, h.trace⟩
  rcases Memory.mem_writeBytes hc with hc | hc
  · exact h.inside hi c hc
  · exact hc.2.trans_le hr

theorem write (h : Serving s t) {a : Nat} {bs : List Byte} (hr : a + bs.length ≤ t.cfg.cpMemSize) :
    Serving s ((t.setMem (t.mem.writeBytes a bs)).record (.memWrite a bs)) := by
  rw [h.cfg] at hr
  exact (h.writeBytes hr).record (e := .memWrite a bs) hr

theorem read (h : Serving s t) {a n : Nat} (hr : a + n ≤ t.cfg.cpMemSize) :
    Serving s (t.record (.memRead a (t.mem.readBytes a n))) := by
  rw [h.cfg] at hr
  exact h.record (e := .memRead a (t.mem.readBytes a n)) (by simpa [Event.ofService] using hr)

end Serving

/-- t is the state a service that began at s ends in: resumed, or in FAULT. -/
structure ServiceEnd (s t : State) : Prop where
  keeps : t = { s with cb := t.cb, tag := t.tag, bankSel := t.bankSel, mem := t.mem, trace := t.trace,
                       seq := t.seq, cpBusy := t.cpBusy, fault := t.fault }
  bank : t.bankSel = s.bankSel ∨ ∃ file n off, translateRecord s.cfg file n = some (t.bankSel, off)
  wf : Memory.wf s.mem = true → Memory.wf t.mem = true
  inside : (∀ c ∈ s.mem, c.1 < s.cfg.cpMemSize) → ∀ c ∈ t.mem, c.1 < s.cfg.cpMemSize
  ends : (∃ es, t.seq = .running ∧ t.cpBusy = true ∧ t.fault = s.fault ∧ t.trace = s.trace ++ es ++ [.cpContinue]
      ∧ ∀ e ∈ es, Event.ofService s.cfg.cpMemSize e)
    ∨ (∃ es, t.seq = .fault ∧ t.cpBusy = s.cpBusy ∧ t.fault = .cpRange ∧ t.trace = s.trace ++ es
      ∧ ∀ e ∈ es, Event.ofService s.cfg.cpMemSize e)

namespace Serving

variable {s t : State}

theorem resume (h : Serving s t) : ServiceEnd s (resume t) := by
  obtain ⟨es, h1, h2⟩ := h.trace
  exact ⟨by rw [h.keeps]; rfl, h.bank, h.wf, h.inside,
    .inl ⟨es, rfl, rfl, by rw [h.keeps]; rfl, by rw [resume_eq]; simp [h1], h2⟩⟩

theorem raiseFault (h : Serving s t) : ServiceEnd s (raiseFault .cpRange t) := by
  obtain ⟨es, h1, h2⟩ := h.trace
  exact ⟨by rw [h.keeps]; rfl, h.bank, h.wf, h.inside, .inr ⟨es, rfl, by rw [h.keeps]; rfl, rfl, h1, h2⟩⟩

theorem writeBack (h : Serving s t) : ServiceEnd s (writeBack t) := by
  unfold Machine.writeBack
  exact memWrite_elim (P := ServiceEnd s) (fun hr => (h.write hr).resume) fun _ => h.raiseFault

theorem reject (h : Serving s t) (e : Byte) : ServiceEnd s (reject e t) := (h.setCb _).writeBack

theorem checkLength (h : Serving s t) {k : State → State} (hk : ServiceEnd s (k t)) : ServiceEnd s (checkLength t k) := by
  unfold Machine.checkLength
  split
  · exact hk
  · exact h.reject _

theorem transferRecord (h : Serving s t) {file : VirtualFile} {n bank off : Nat}
    (hb : translateRecord s.cfg file n = some (bank, off)) : ServiceEnd s (transferRecord bank off t) := by
  unfold Machine.transferRecord romRead
  have h' := (h.switchBank hb).record (e := .romRead off t.cfg.consts.recSize) trivial
  exact memWrite_elim (P := ServiceEnd s) (fun hr => ((h'.write hr).setCb _).writeBack) fun _ => h'.raiseFault

theorem readFromFile (h : Serving s t) (file : VirtualFile) : ServiceEnd s (readFromFile file t) := by
  unfold Machine.readFromFile
  split
  · exact h.reject _
  · rename_i hb
    exact h.transferRecord (h.cfg ▸ hb)

theorem readByTag (h : Serving s t) : ServiceEnd s (readByTag t) := by
  unfold Machine.readByTag
  split
  · exact h.reject _
  · exact h.readFromFile _

theorem readTag (h : Serving s t) : ServiceEnd s (readTag t) := by
  unfold Machine.readTag
  exact memRead_elim (P := ServiceEnd s) (fun hr => ((h.read hr).setTag _).readByTag) fun _ => h.raiseFault

end Serving

/-- The end of a service that began inside another, its latches, bank and memory still those of the start, is an end of the
whole. -/
theorem ServiceEnd.of_serving {s t u : State} (h : ServiceEnd t u) (hs : Serving s t)
    (he : t = { s with trace := t.trace }) : ServiceEnd s u := by
  obtain ⟨fs, f1, f2⟩ := hs.trace
  have hc : t.cfg = s.cfg := hs.cfg
  have hk := h.keeps
  have hm : t.mem = s.mem := by rw [he]
  have hb : t.bankSel = s.bankSel := by rw [he]
  refine ⟨by rw [hk, he], hb ▸ hc ▸ h.bank, hm ▸ h.wf, hm ▸ hc ▸ h.inside, ?_⟩
  · rcases h.ends with ⟨es, h1, h2, h3, h4, h5⟩ | ⟨es, h1, h2, h3, h4, h5⟩
    · refine .inl ⟨fs ++ es, h1, h2, by rw [h3, he], by rw [h4, f1]; simp, fun e hm => ?_⟩
      rcases List.mem_append.1 hm with hm | hm
      exacts [f2 e hm, hc ▸ h5 e hm]
    · refine .inr ⟨fs ++ es, h1, by rw [h2, he], h3, by rw [h4, f1]; simp, fun e hm => ?_⟩
      rcases List.mem_append.1 hm with hm | hm
      exacts [f2 e hm, hc ▸ h5 e hm]

/-- The inversion of a request: exec always answers a next state, which is an end of the service. -/
theorem exec_request_end {i : Instr} (hi : i.format = .control) (s : State) :
    ∃ t, exec i s = .next t ∧ ServiceEnd s t := by
  have h := (Serving.refl s).setCb
  cases i with
  | openReq f =>
    refine ⟨_, rfl, (h _).checkLength ?_⟩
    split
    · exact (h _).writeBack
    · exact (h _).reject _
  | closeReq f => exact ⟨_, rfl, (h _).resume⟩
  | readReq f => exact ⟨_, rfl, (h _).checkLength (h _).readTag⟩
  | invalidReq opc f => exact ⟨_, rfl, (h _).checkLength ((h _).reject _)⟩
  | success _ _ => cases hi
  | storage _ _ _ => cases hi
  | error _ _ _ _ => cases hi

end Sys2Proof.Machine
end

