-- ==== Sys2Proof/Laws/Sequencer.lean ====
section
/-! SUPPORT. The inversions of the steps that may be refused: what PROBE_CHECK, CHECK_RESULT and STORAGE can have done when they
answer a next state. -/

namespace Sys2Proof.Machine

/-- PROBE_CHECK goes on with a fault, with a pass of a halted co-processor, or with a failure (40_supervisor.md R113). -/
theorem stepProbeCheck_cases {s t : State} (h : stepProbeCheck s = .next t) :
    t = raiseFault .cpRange s
    ∨ (s.cpBusy = false ∧ s.cfg.progStart + 2 ≤ s.cfg.cpMemSize ∧ t =
        ((s.record (.memRead s.cfg.progStart (s.mem.readBytes s.cfg.progStart 2))).setCapPresent true).setSeq .upload)
    ∨ (s.cfg.progStart + 2 ≤ s.cfg.cpMemSize ∧ t = enterHaltFailure (emit .msgUnsupported
        ((s.record (.memRead s.cfg.progStart (s.mem.readBytes s.cfg.progStart 2))).setCapPresent false))) := by
  rcases Nat.lt_or_ge s.cfg.cpMemSize (s.cfg.progStart + 2) with hr | hr
  · rw [stepProbeCheck, fetchBytes_outside hr] at h
    cases h; exact .inl rfl
  · rw [stepProbeCheck, fetchBytes_inside hr] at h
    split at h
    · split at h <;> cases h
      rename_i hd
      exact .inr (.inl ⟨by simpa [probeDone] using hd, hr, rfl⟩)
    · cases h; exact .inr (.inr ⟨hr, rfl⟩)

/-- CHECK_RESULT goes on with a fault or with a status block and its class's state (40_supervisor.md R120). -/
theorem stepCheckResult_cases {s t : State} (h : stepCheckResult s = .next t) :
    t = raiseFault .cpRange s
    ∨ ∃ b : StatusBlock, s.cfg.consts.sbWords = 4 ∧ t =
        (((s.record (.memRead s.cfg.statusAddr (s.mem.readBytes s.cfg.statusAddr 8))).setSb b).setSeq
          (dispatchSeq b.dispatch)) ∧ s.cfg.statusAddr + 8 ≤ s.cfg.cpMemSize := by
  rcases Nat.lt_or_ge s.cfg.cpMemSize (s.cfg.statusAddr + 2 * s.cfg.consts.sbWords) with hr | hr
  · rw [stepCheckResult, fetchBytes_outside hr] at h
    cases h; exact .inl rfl
  · rw [stepCheckResult, fetchBytes_inside hr] at h
    by_cases hw : s.cfg.consts.sbWords = 4
    · rw [hw] at h hr
      split at h <;> cases h
      exact .inr ⟨_, hw, rfl, hr⟩
    · rw [StatusBlock.ofBytes_eq_none (by simp; omega)] at h
      cases h

/-- The inversion of STORAGE: a next state is an end of a service at the request address (40_supervisor.md R125). -/
theorem execStorage_end {request computed expected : Word} {s t : State}
    (h : execStorage request computed expected s = .next t) : ServiceEnd { s with req := request } t := by
  have hs : Serving { s with req := request } (s.setReq request) := Serving.refl _
  unfold execStorage at h
  rcases Nat.lt_or_ge (s.setReq request).cfg.cpMemSize (request.toNat + s.cfg.consts.cbLen) with hr | hr
  · rw [fetchBytes_outside hr] at h
    cases h; exact hs.raiseFault
  · rw [fetchBytes_inside hr] at h
    have hs := hs.read hr
    split at h
    · cases h
    · rename_i i hd
      have hf : i.format = .control := by
        simp only [decode] at hd
        split at hd <;> cases hd
        exact ControlBlock.request_format _ _
      rw [runRequest_eq_exec hf] at h
      obtain ⟨u, hu, he⟩ := exec_request_end hf ((s.setReq request).record
        (.memRead request.toNat ((s.setReq request).mem.readBytes request.toNat s.cfg.consts.cbLen)))
      cases hu.symm.trans h
      exact he.of_serving hs rfl

end Sys2Proof.Machine
end

