-- ==== Sys2Proof/Tests/Slice0.lean ====
section
/-! SUPPORT. The model's own tests: ill-formed terms that are refused, blocks written out from the spec's layouts, single steps
with the expected values of 95_test_vectors.md, and for every obligation with hypotheses a witness that meets them. -/

namespace Sys2Proof.Tests

open Sys2Proof.Machine

/-! ## Small states -/

/-- EX with the 128 cells of `ROM(0xF0, 0..127)` that 95_test_vectors.md section 0 gives. -/
def exRom : Config :=
  { Config.ex with rom := (List.range 128).map fun i => (0xF0 * 16384 + i, BitVec.ofNat 8 (0xF0 + i)) }

/-- A supervised system in sequencer state q, under configuration c. -/
def at' (q : SeqState) (c : Config := Config.ex) : State := { State.resetWith c with seq := q, capPresent := true }

/-- A control block. -/
def cb (opc err : Byte) (buf : Word) (rlen retlen : Byte) (rec : Word) : ControlBlock :=
  { opc := opc, err := err, buf := buf, rlen := rlen, retlen := retlen, recNo := rec, x8 := 0, x9 := 0 }

/-- About to serve block b at address a, with the tag bytes c0 c1 at a + 19. -/
def serve (b : ControlBlock) (c0 c1 : Byte) (a : Word := 0x2000) : State :=
  { at' .dispatchStorage exRom with
    sb := ⟨0, a, 0, 0⟩, mem := (Memory.writeBytes [] a.toNat b.bytes).writeBytes (a.toNat + 19) [c0, c1] }

/-- The same system inside the service: REQ has taken the address. -/
def inService (b : ControlBlock) (c0 c1 : Byte) (a : Word := 0x2000) : State :=
  { serve b c0 c1 a with req := a }

/-- A system whose co-processor has halted with the eight bytes bs at STATUS_ADDR. -/
def reported (bs : List Byte) (c : Config := Config.ex) : State :=
  { at' .checkResult c with mem := Memory.writeBytes [] c.statusAddr bs }

/-- RUNNING with the co-processor busy, its next moves ms and the next keys ks. -/
def busy (ms : List CpMove) (ks : List Byte) (c : Config := Config.ex) : State :=
  { at' .running c with cpBusy := true, cpScript := ms, keyScript := ks }

/-- A move that changes nothing and goes on. -/
def idle : CpMove := ⟨[], false⟩

/-- A move that changes nothing and halts. -/
def halt : CpMove := ⟨[], true⟩

/-- What f sees of the next state, if there is one. -/
def seen {α : Type} (f : State → α) : Host.Outcome State Fault Refusal → Option α
  | .next t => some (f t)
  | .fault _ => none
  | .refused _ => none

/-- The refusal, if there is one. -/
def refusal : Host.Outcome State Fault Refusal → Option Refusal
  | .next _ => none
  | .fault _ => none
  | .refused r => some r

/-- The ten bytes at 0x2000. -/
def block (s : State) : List Byte := s.mem.readBytes 0x2000 10

/-! ## Well-formedness: each check refuses an ill-formed term -/

theorem test_wf_invalid_refuses_open : (Instr.invalidReq 0x00 ⟨0, 0, 0, 0, 0, 0, 0⟩).wf .document = false := by decide

theorem test_wf_invalid_refuses_close : (Instr.invalidReq 0x01 ⟨0, 0, 0, 0, 0, 0, 0⟩).wf .document = false := by decide

theorem test_wf_invalid_refuses_read : (Instr.invalidReq 0x02 ⟨0, 0, 0, 0, 0, 0, 0⟩).wf .document = false := by decide

theorem test_wf_storage_refuses_zero : (Instr.storage 0 0x1234 0x1234).wf .document = false := by decide

theorem test_wf_error_refuses_zero : (Instr.error 0 0x2000 0 0).wf .document = false := by decide

theorem test_wf_accepts_each_class :
    ([Instr.openReq ⟨0, 0, 0, 0, 0, 0, 0⟩, .closeReq ⟨0, 0, 0, 0, 0, 0, 0⟩, .readReq ⟨0, 0, 0, 0, 0, 0, 0⟩,
      .invalidReq 0x03 ⟨0, 0, 0, 0, 0, 0, 0⟩, .invalidReq 0xFF ⟨0, 0, 0, 0, 0, 0, 0⟩, .success 0 0, .storage 1 0 0,
      .error 1 0 0 0].all (Instr.wf .document)) = true := by decide

theorem test_opcodes_distinct : Consts.document.opcodesDistinct = true
    ∧ ({ opClose := 0x00 } : Consts).opcodesDistinct = false
    ∧ ({ opRead := 0x00 } : Consts).opcodesDistinct = false
    ∧ ({ opRead := 0x01 } : Consts).opcodesDistinct = false := by decide

/-- EX meets R234; each of its requirements broken alone is refused (the last is V-P8). -/
theorem test_config_wf : Config.ex.wf = true
    ∧ ({ Config.ex with cpMemSize := 65537 } : Config).wf = false
    ∧ ({ Config.ex with b0 := 0xF8 } : Config).wf = false
    ∧ ({ Config.ex with b1 := 0xFF } : Config).wf = false
    ∧ ({ Config.ex with b2 := 0x100 } : Config).wf = false
    ∧ ({ Config.ex with tag2 := ⟨0x42, 0x49⟩ } : Config).wf = false
    ∧ ({ Config.ex with probePayload := [0x00, 0x00, 0x76, 0x00] } : Config).wf = false := by decide

/-- V-P8: a blind probe payload is refused before the first step. -/
theorem test_blind_probe_refused :
    refusal (step (State.resetWith { Config.ex with probePayload := [0x00, 0x00, 0x76, 0x00] })) = some .configuration := by
  decide

/-- EX breaks the condition of R190 (768 is not below 496), V-R16's configuration meets it. -/
theorem test_no_aliasing_condition : Config.ex.noAliasing = false
    ∧ ({ Config.ex with bankW := 16, b0 := 0xFFF0, b1 := 0xFFF8, b2 := 0xFFFF } : Config).noAliasing = true := by decide

/-! ## Decoding: words written out from the layouts of 30_encoding.md R80 and R84 -/

theorem test_decode_open : decode .document .control [0b00000000, 0b01011010, 0, 0, 0b10000000, 0x11, 0x12, 0x34, 0xAB, 0xCD]
    = .ok (.openReq ⟨0x5A, 0, 0x80, 0x11, 0x1234, 0xAB, 0xCD⟩) := by decide

theorem test_decode_close : decode .document .control [0b00000001, 0xA0, 0, 0, 0, 0x33, 0x00, 0x05, 0x99, 0]
    = .ok (.closeReq ⟨0xA0, 0, 0, 0x33, 5, 0x99, 0⟩) := by decide

/-- V-R5's block: every field big-endian. -/
theorem test_decode_read : decode .document .control [0b00000010, 0x00, 0x10, 0x00, 0x80, 0x00, 0x03, 0xEF, 0, 0]
    = .ok (.readReq ⟨0, 0x1000, 0x80, 0, 1007, 0, 0⟩) := by decide

/-- The edges of the INVALID class (R94): 0x03 and 0xFF. -/
theorem test_decode_invalid_edges :
    decode .document .control [0b00000011, 0, 0, 0, 0, 0, 0, 0, 0, 0] = .ok (.invalidReq 3 ⟨0, 0, 0, 0, 0, 0, 0⟩)
    ∧ decode .document .control [0b11111111, 0, 0, 0, 0, 0, 0, 0, 0, 0] = .ok (.invalidReq 255 ⟨0, 0, 0, 0, 0, 0, 0⟩) := by
  decide

/-- V-S3: the storage request is 0x0020, not 0x2000. -/
theorem test_decode_storage : decode .document .status [0, 0, 0b00000000, 0b00100000, 0, 0, 0, 0] = .ok (.storage 0x0020 0 0) := by
  decide

theorem test_decode_success : decode .document .status [0, 0, 0, 0, 0x12, 0x34, 0x56, 0x78] = .ok (.success 0x1234 0x5678) := by
  decide

/-- V-S7 and V-S8: the high byte of the result counts, and the result is tested first. -/
theorem test_decode_error :
    decode .document .status [0b00000001, 0b00000000, 0, 0, 0xBE, 0xEF, 0xBE, 0xEF] = .ok (.error 0x0100 0 0xBEEF 0xBEEF)
    ∧ decode .document .status [0b10000000, 0, 0x20, 0x00, 0, 0, 0, 0] = .ok (.error 0x8000 0x2000 0 0) := by decide

theorem test_decode_refuses_wrong_length : decode .document .control [0x02] = .error .controlBlockLength
    ∧ decode .document .status [0, 0] = .error .statusBlockLength := by decide

theorem test_decode_table_rows : decodeTableWord 8 0x01 = some (.closeReq ⟨0, 0, 0, 0, 0, 0, 0⟩)
    ∧ decodeTableWord 32 0x00010000 = some (.error 1 0 0 0) ∧ decodeTableWord 32 0x00002000 = some (.storage 0x2000 0 0)
    ∧ decodeTableWord 32 0 = some (.success 0 0) := by decide

/-! ## Single steps -/

/-- V-O2: 0x12 is not OPEN_ATTR, so 0x40 is ORed. -/
theorem test_open_flags : seen block (step (serve (cb 0x00 0x12 0 0x80 0 0) 0x42 0x49))
    = some [0x00, 0x52, 0, 0, 0x80, 0, 0, 0, 0, 0] := by decide

/-- V-O1: an accepted open writes the same bytes back and continues the co-processor. -/
theorem test_open_accepts : seen (fun t => (block t, t.seq, t.cpBusy)) (step (serve (cb 0x00 0x5A 0 0x80 0 0) 0x51 0x51))
    = some ([0x00, 0x5A, 0, 0, 0x80, 0, 0, 0, 0, 0], .running, true) := by decide

/-- V-C2's block: a CLOSE of any length reads the block, writes nothing and continues. -/
theorem test_close_trace : seen (fun t => t.trace) (step (serve (cb 0x01 0xA0 0 0x00 0x33 5) 0x3F 0x3F))
    = some [.memRead 0x2000 [0x01, 0xA0, 0, 0, 0, 0x33, 0, 5, 0, 0], .cpContinue] := by decide

/-- V-I1. -/
theorem test_invalid_flags : seen block (step (serve (cb 0x07 0x01 0 0x80 0 0) 0x42 0x49))
    = some [0x07, 0x41, 0, 0, 0x80, 0, 0, 0, 0, 0] := by decide

/-- V-L4: a bad length and a bad opcode set one flag. -/
theorem test_invalid_bad_length : seen block (step (serve (cb 0xFF 0x00 0 0x00 0 0) 0x42 0x49))
    = some [0xFF, 0x40, 0, 0, 0, 0, 0, 0, 0, 0] := by decide

/-- V-R1: record 0 of file 1, the data [F0..6F] at 0x1000-0x107F. -/
theorem test_read_first_record :
    seen (fun t => (block t, t.bankSel, [t.mem.read 0x0FFF, t.mem.read 0x1000, t.mem.read 0x107F, t.mem.read 0x1080]))
      (step (serve (cb 0x02 0x00 0x1000 0x80 0 0) 0x42 0x49))
    = some ([0x02, 0x00, 0x10, 0x00, 0x80, 0x80, 0x00, 0x01, 0, 0], 0xF0, [0x00, 0xF0, 0x6F, 0x00]) := by decide +kernel

/-- V-X1: the write-back wins over the buffer, and the tag bytes are overwritten by data[23] and data[24]. -/
theorem test_read_overlap :
    seen (fun t => (t.mem.readBytes 0x1FFC 4, block t, t.mem.readBytes 0x2013 2))
      (step (serve (cb 0x02 0x00 0x1FFC 0x80 0 0) 0x42 0x49))
    = some ([0xF0, 0xF1, 0xF2, 0xF3], [0x02, 0x00, 0x1F, 0xFC, 0x80, 0x80, 0x00, 0x01, 0, 0], [0x07, 0x08]) := by
  decide +kernel

/-- V-S5: SUCCESS ignores the checksums and shows no message. -/
theorem test_success_emits : seen (fun t => (t.seq, t.ind, t.msg, t.trace)) (exec (.success 0x1234 0x5678) (at' .dispatchSuccess))
    = some (.haltSuccess, .success, .none, [.emit .indSuccess]) := by decide

/-- V-S6 and V-S9: differing checksum words show the message, before the indicator. -/
theorem test_error_mismatch : seen (fun t => (t.seq, t.msg, t.trace)) (exec (.error 1 0 0x1234 0x3412) (at' .dispatchError))
    = some (.haltFailure, .checksumMismatch, [.emit .msgChecksumMismatch, .emit .indFailure]) := by decide

/-- V-S8: a reported failure does not service its request. -/
theorem test_error_match : seen (fun t => (t.seq, t.msg, t.req, t.trace)) (exec (.error 0x8000 0x2000 0 0) (at' .dispatchError))
    = some (.haltFailure, .none, 0, [.emit .indFailure]) := by decide

/-- V-S11: a request at 0xFFFF faults with no read and no CONT. -/
theorem test_storage_out_of_range :
    seen (fun t => (t.seq, t.fault, t.cpBusy, t.trace)) (exec (.storage 0xFFFF 0 0) (at' .dispatchStorage))
    = some (.fault, .cpRange, false, []) := by decide

/-- V-S12: a request at 0x3FF6 is in range; the zero block there is an OPEN with a bad length. -/
theorem test_storage_last_address :
    seen (fun t => (t.seq, t.mem.readBytes 0x3FF6 2)) (exec (.storage 0x3FF6 0 0) (at' .dispatchStorage))
    = some (.running, [0x00, 0x40]) := by decide

/-! ## The sequencer -/

/-- W1: PROBE_LOAD writes the payload and starts the co-processor. -/
theorem test_probe_load : seen (fun t => (t.seq, t.cpBusy, t.trace)) (step State.reset)
    = some (.probeCheck, true, [.memWrite 0x3000 [0x11, 0x22, 0x33, 0x44], .cpStart 0x3000]) := by decide

/-- V-P1 and V-P3: both bytes must be zero. -/
theorem test_probe_check : seen (fun t => (t.seq, t.capPresent)) (step (at' .probeCheck)) = some (.upload, true)
    ∧ seen (fun t => (t.seq, t.capPresent, t.msg, t.ind))
        (step { at' .probeCheck with mem := [(0x3001, 0x22)] }) = some (.haltFailure, false, .unsupported, .failure) := by decide

/-- ENV_PROBE_DONE (60_exceptions.md R217): a zero readback while the payload still runs is no pass; a nonzero one still fails. -/
theorem test_probe_check_while_busy :
    refusal (step { at' .probeCheck with cpBusy := true, cpScript := [idle] }) = some .probeUnfinished
    ∧ seen (fun t => t.seq) (step { at' .probeCheck with cpBusy := true, cpScript := [idle], mem := [(0x3000, 0x11)] })
      = some .haltFailure := by decide

/-- V-U1. -/
theorem test_upload : seen (fun t => (t.seq, t.trace)) (step (at' .upload))
    = some (.running, [.memWrite 0x3000 [0xAA, 0xBB, 0xCC, 0xDD], .cpStart 0x3000]) := by decide

/-- V-K1 and V-K3. -/
theorem test_running_check_first :
    seen (fun t => (t.seq, t.trace)) (step (busy [idle] [0x05]))
      = some (.running, [.cpBusy true, .pollKey 0x05, .memWrite 0x3F08 [0x05]])
    ∧ seen (fun t => (t.seq, t.trace)) (step (busy [halt] [0x05])) = some (.checkResult, [.cpBusy false]) := by decide

/-- V-K4. -/
theorem test_running_write_first :
    seen (fun t => (t.seq, t.trace)) (step (busy [halt] [0x07] { Config.ex with keyOrder := .writeFirst }))
      = some (.checkResult, [.pollKey 0x07, .memWrite 0x3F08 [0x07], .cpBusy false]) := by decide

/-- V-S2. -/
theorem test_check_result : seen (fun t => (t.seq, t.sb)) (step (reported [0x00, 0x00, 0x20, 0x00, 0x12, 0x34, 0x12, 0x34]))
    = some (.dispatchStorage, ⟨0, 0x2000, 0x1234, 0x1234⟩) := by decide

/-- A status block of three words and a control block of eleven bytes have no layout (log 33). -/
theorem test_block_lengths :
    refusal (step (at' .checkResult { Config.ex with consts := { sbWords := 3 } })) = some (.undecodable .statusBlockLength)
    ∧ refusal (step (at' .dispatchStorage { Config.ex with consts := { cbLen := 11 } }))
      = some (.undecodable .controlBlockLength) := by decide

/-! ## The resolver, the translator and the bounds checker -/

/-- V-T1, V-T2, V-T3, V-T4, V-T7. -/
theorem test_resolver : resolveTag .ex ⟨0x42, 0x49⟩ = some .file1 ∧ resolveTag .ex ⟨0x5A, 0x32⟩ = some .file2
    ∧ resolveTag .ex ⟨0x62, 0x69⟩ = none ∧ resolveTag .ex ⟨0x49, 0x42⟩ = none ∧ resolveTag .ex ⟨0x32, 0x5A⟩ = none := by decide

/-- V-R2, V-R5, V-R6 and the aliasing read V-R13, all of file 1. -/
theorem test_translate_file1 : translateRecord .ex .file1 125 = some (0xF0, 0x3E80)
    ∧ translateRecord .ex .file1 1007 = some (0xF7, 0x3E80) ∧ translateRecord .ex .file1 1008 = none
    ∧ translateRecord .ex .file1 0x7E00 = some (0xF0, 0) := by decide

/-- V-R8, V-R9, the wrap guard V-R10 and the aliasing read V-R14, all of file 2. -/
theorem test_translate_file2 : translateRecord .ex .file2 881 = some (0xFE, 0x3E80)
    ∧ translateRecord .ex .file2 882 = none ∧ translateRecord .ex .file2 1008 = none
    ∧ translateRecord .ex .file2 0x7A10 = some (0xF0, 0) := by decide

/-- V-R4 and V-R15: the increment carries into the high byte, and the carry out of it is lost. -/
theorem test_increment : (transferred .document (cb 2 0 0 0x80 0 0x00FF)).recNo = 0x0100
    ∧ (transferred .document (cb 2 0 0 0x80 0 0xFFFF)).recNo = 0x0000 := by decide

/-! ## Witnesses: what meets the hypotheses of each obligation -/

theorem test_witness_DecodeAfterEncode : Consts.document.opcodesDistinct = true
    ∧ (Instr.invalidReq 0x03 ⟨0xFF, 0xFFFF, 0xFF, 0xFF, 0xFFFF, 0xFF, 0xFF⟩).wf .document = true
    ∧ (Instr.error 0xFFFF 0 0 0).wf .document = true := by decide

theorem test_witness_EncodeAfterDecode :
    decode .document .control [0x02, 0x40, 0x10, 0, 0x40, 0, 0, 0, 0, 0] = .ok (.readReq ⟨0x40, 0x1000, 0x40, 0, 0, 0, 0⟩)
    ∧ decode .document .status [0, 0, 0, 1, 0xFF, 0xFF, 0, 0] = .ok (.storage 1 0xFFFF 0) := by decide

/-- One list of ten bytes for each of the four classes. -/
theorem test_witness_OpcodeDecodeTotal : ∀ o ∈ ([0x00, 0x01, 0x02, 0x03, 0xFF] : List Byte),
    (o :: List.replicate 9 (0 : Byte)).length = 10 := by decide

theorem test_witness_StepRunsControlBlock : ∃ (s : State) (i : Instr), s.seq = .dispatchStorage ∧ s.cpBusy = false
    ∧ s.sb.request.toNat + 10 = s.cfg.cpMemSize ∧ decode s.cfg.consts .control (s.mem.readBytes s.sb.request.toNat 10) = .ok i :=
  ⟨serve (cb 0x01 0 0 0 0 0) 0 0 0x3FF6, .closeReq ⟨0, 0, 0, 0, 0, 0, 0⟩, by decide⟩

theorem test_witness_StepRunsStatusBlock : ∃ (s : State) (i : Instr), s.seq = .checkResult ∧ s.cpBusy = false
    ∧ s.cfg.statusAddr + 8 = s.cfg.cpMemSize ∧ decode s.cfg.consts .status (s.mem.readBytes s.cfg.statusAddr 8) = .ok i :=
  ⟨reported [0, 1, 0, 0, 0, 0, 0, 0] { Config.ex with statusAddr := 0x3FF8 }, .error 1 0 0 0, by decide⟩

theorem test_witness_ResetState : ({ Config.ex with bankReset := 255 } : Config).bankReset < 2 ^ Config.ex.bankW := by decide

/-- A busy co-processor, a pending request and a fault: three states with the invariant that have a next state. -/
theorem test_witness_InvariantKept :
    (MachineInv (busy [idle] [1]) ∧ ∃ t, step (busy [idle] [1]) = .next t)
    ∧ (MachineInv (serve (cb 0x01 0 0 0 0 0) 0x42 0x49) ∧ ∃ t, step (serve (cb 0x01 0 0 0 0 0) 0x42 0x49) = .next t)
    ∧ MachineInv { at' .fault with fault := .cpRange } := by
  refine ⟨⟨?_, _, rfl⟩, ⟨?_, _, rfl⟩, ?_⟩ <;> constructor <;> decide

/-- For each sequencer state a state with a next state: TransitionsOfTable, LatchWriters, AccessesOfTable. -/
theorem test_witness_steps : ∀ q ∈ [SeqState.probeLoad, .probeCheck, .upload, .running, .checkResult, .dispatchError,
    .dispatchStorage, .dispatchSuccess, .haltSuccess, .haltFailure, .fault],
    (at' q).cfg.consts = Consts.document ∧ (seen (fun t => decide (t.seq ∈ q.successors)) (step (at' q))) = some true := by
  decide

/-- One state for each of the four refusals and one for a next state of PROBE_LOAD. -/
theorem test_witness_EveryStepAnswers : (at' .probeLoad { Config.ex with b0 := 0xF8 }).cfg.wf = false
    ∧ (let s : State := { at' .probeCheck with cpBusy := true, cpScript := [idle] };
      (cpTurn s).cpBusy = true ∧ (cpTurn s).mem.read s.cfg.progStart = 0x00
      ∧ (cpTurn s).mem.read (s.cfg.progStart + 1) = 0x00)
    ∧ (at' .checkResult { Config.ex with consts := { sbWords := 3 } }).cfg.consts.sbWords ≠ 4
    ∧ (at' .dispatchStorage { Config.ex with consts := { cbLen := 11 } }).cfg.consts.cbLen ≠ 10
    ∧ (at' .probeLoad).cfg.wf = true := by decide

/-- LatchWriters: a step that writes ind and msg, and one that writes fault. -/
theorem test_witness_LatchWriters :
    seen (fun t => (t.ind, t.msg)) (step { at' .probeCheck with mem := [(0x3001, 0x22)] }) = some (.failure, .unsupported)
    ∧ seen (fun t => (t.seq, t.fault)) (step (at' .checkResult { Config.ex with statusAddr := 0x3FF9 }))
      = some (.fault, .cpRange) := by decide

theorem test_witness_TerminalForever : SeqState.haltSuccess.terminal = true ∧ SeqState.haltFailure.terminal = true
    ∧ SeqState.fault.terminal = true := by decide

theorem test_witness_FaultEntry : ∃ s t : State, s.seq ≠ .fault ∧ step s = .next t ∧ t.seq = .fault :=
  ⟨at' .checkResult { Config.ex with statusAddr := 0x3FF9 }, _, by decide, rfl, by decide⟩

/-- AccessesOfTable: a READ in bounds, whose step makes all five accesses of its row, and one whose length is bad. -/
theorem test_witness_AccessesOfTable :
    (let s := serve (cb 0x02 0 0x1000 0x80 0 0) 0x42 0x49;
      s.cfg.consts = Consts.document ∧ requestedRead s = some (0xF0, 0)
      ∧ seen (fun t => t.trace.length) (step s) = some 7)
    ∧ (let s := serve (cb 0x02 0 0x1000 0x7F 0 0) 0x42 0x49;
      s.cfg.consts = Consts.document ∧ requestedRead s = none
      ∧ seen (fun t => t.trace.length) (step s) = some 3) := by decide +kernel

/-- V-P7's, V-U2's and V-S13's configurations at their boundaries, one for each clause. -/
theorem test_witness_SequencerRangeFaults :
    (let c : Config := { Config.ex with progStart := 0x3FFD };
      c.wf = true ∧ c.progStart + c.probePayload.length = c.cpMemSize + 1)
    ∧ (let c : Config := { Config.ex with progStart := 0x3FFF };
      c.progStart + 2 = c.cpMemSize + 1)
    ∧ (let c : Config := { Config.ex with progStart := 0x3FFD };
      c.progStart + c.updatePayload.length = c.cpMemSize + 1)
    ∧ (let c : Config := { Config.ex with statusAddr := 0x3FF9 };
      c.statusAddr + 2 * c.consts.sbWords = c.cpMemSize + 1) := by decide

theorem test_witness_ProbeLoadStep : let c : Config := { Config.ex with progStart := 0x3FFC }
    c.wf = true ∧ c.progStart + c.probePayload.length = c.cpMemSize := by decide

/-- Both outcomes of the readback, at the last address, and the zero readback of a co-processor that still runs. -/
theorem test_witness_ProbeCheckStep : let s := at' .probeCheck { Config.ex with progStart := 0x3FFE }
    s.seq = .probeCheck ∧ s.cfg.progStart + 2 = s.cfg.cpMemSize ∧ (cpTurn s).mem.read s.cfg.progStart = 0x00
    ∧ (cpTurn { s with mem := [(0x3FFF, 0x22)] }).mem.read (s.cfg.progStart + 1) = 0x22
    ∧ (cpTurn { s with cpBusy := true, cpScript := [idle] }).cpBusy = true
    ∧ (cpTurn { s with cpBusy := true, cpScript := [halt] }).cpBusy = false := by decide

theorem test_witness_UploadStep : let s := at' .upload { Config.ex with progStart := 0x3FFC }
    s.seq = .upload ∧ s.cfg.progStart + s.cfg.updatePayload.length = s.cfg.cpMemSize := by decide

/-- A busy and a halted co-processor, INPUT_ADDR the last address. -/
theorem test_witness_RunningCheckFirst : let c : Config := { Config.ex with inputAddr := 0x3FFF }
    (busy [idle] [1] c).cfg.keyOrder = .checkFirst ∧ (cpTurn (busy [idle] [1] c)).cpBusy = true ∧ c.inputAddr + 1 = c.cpMemSize
    ∧ (cpTurn (busy [halt] [1] c)).cpBusy = false := by decide

theorem test_witness_RunningWriteFirst : let s := busy [idle] [1] { Config.ex with inputAddr := 0x3FFF, keyOrder := .writeFirst }
    s.seq = .running ∧ s.cfg.keyOrder = .writeFirst ∧ s.cfg.inputAddr + 1 = s.cfg.cpMemSize := by decide

/-- V-K7's configuration in both orders. -/
theorem test_witness_RunningRangeFault : let c : Config := { Config.ex with inputAddr := 0x4000 }
    c.cpMemSize ≤ c.inputAddr ∧ c.keyOrder = .checkFirst ∧ (cpTurn (busy [idle] [1] c)).cpBusy = true
    ∧ ({ c with keyOrder := .writeFirst } : Config).keyOrder = .writeFirst := by decide

/-- One status block for each class, STATUS_ADDR the last address. -/
theorem test_witness_CheckResultStep : let c : Config := { Config.ex with statusAddr := 0x3FF8 }
    c.statusAddr + 8 = c.cpMemSize ∧ (reported [0, 1, 0, 0, 0, 0, 0, 0] c).cpBusy = false ∧ c.consts.sbWords = 4
    ∧ (statusBlockAt (reported [0, 1, 0, 0, 0, 0, 0, 0] c).mem c.statusAddr).result ≠ 0
    ∧ (statusBlockAt (reported [0, 0, 0, 1, 0, 0, 0, 0] c).mem c.statusAddr).request ≠ 0
    ∧ (statusBlockAt (reported [0, 0, 0, 0, 0, 0, 0, 1] c).mem c.statusAddr).request = 0 := by decide

/-- A device that writes next to the two bytes, and halts. -/
theorem test_witness_ProbeFailsSafe : let s := { State.reset with cpScript := [⟨[(0x3002, 0x00), (0x2FFF, 0x00)], true⟩] }
    s.seq = .probeLoad ∧ s.cpBusy = false ∧ Memory.wf s.mem = true ∧ s.cfg.wf = true ∧ 2 ≤ s.cfg.probePayload.length
    ∧ s.cfg.progStart + s.cfg.probePayload.length ≤ s.cfg.cpMemSize
    ∧ (∀ w ∈ (nextCpMove s).writes, w.1 ≠ s.cfg.progStart ∧ w.1 ≠ s.cfg.progStart + 1) := by decide

theorem test_witness_RunningWhileNeverHalting : let s := busy [idle, ⟨[(0x3F00, 0xFF)], false⟩] [1, 2]
    s.seq = .running ∧ s.cpBusy = true ∧ s.cfg.inputAddr < s.cfg.cpMemSize ∧ 2 ≤ s.cpScript.length
    ∧ (∀ m ∈ s.cpScript, m.halts = false) := by decide

/-- A halted co-processor, an address its move does not name, the first address outside memory, and a running one that writes
the last address twice: the later byte stands. -/
theorem test_witness_CoprocessorTurnFrame : (at' .checkResult).cpBusy = false
    ∧ (∀ w ∈ (nextCpMove (busy [⟨[(0x3F00, 1), (0x4000, 2)], true⟩] [])).writes, w.1 ≠ 0x3F01)
    ∧ Config.ex.cpMemSize ≤ 0x4000
    ∧ (let s := busy [⟨[(0x3FFF, 1), (0x3FFF, 2)], true⟩] [];
      s.cpBusy = true ∧ Memory.wf s.mem = true ∧ 0x3FFF < s.cfg.cpMemSize
      ∧ (nextCpMove s).writes.reverse.find? (fun w => w.1 == 0x3FFF) = some (0x3FFF, 2)
      ∧ (nextCpMove s).writes.reverse.find? (fun w => w.1 == 0x3FFE) = none
      ∧ (cpTurn s).mem.read 0x3FFF = 2 ∧ (cpTurn s).cpBusy = false) := by decide

/-- A RUNNING step that writes a key and a PROBE_CHECK step that reads, the co-processor running on in both. -/
theorem test_witness_OnlyKeyWritesWhileRunning :
    (MachineInv (busy [idle] [5]) ∧ (cpTurn (busy [idle] [5])).cpBusy = true
      ∧ ∃ t, step (busy [idle] [5]) = .next t
        ∧ t.trace = (busy [idle] [5]).trace ++ [.cpBusy true, .pollKey 5, .memWrite 0x3F08 [5]])
    ∧ (let s : State := { at' .probeCheck with cpBusy := true, cpScript := [idle], mem := [(0x3000, 0x11)] };
      MachineInv s ∧ (cpTurn s).cpBusy = true
      ∧ ∃ t, step s = .next t
        ∧ t.trace = s.trace ++ [.memRead 0x3000 [0x11, 0x00], .emit .msgUnsupported, .emit .indFailure]) := by
  refine ⟨⟨?_, by decide, _, rfl, by decide⟩, ?_, by decide, _, rfl, by decide⟩ <;> constructor <;> decide

theorem test_witness_StorageRunsService : (0x3FF6 : Word).toNat + 10 = (at' .dispatchStorage).cfg.cpMemSize
    ∧ (at' .dispatchStorage).cfg.consts.cbLen = 10 := by decide

/-- A READ whose block, tag and buffer end with memory. -/
theorem test_witness_StorageCompletes : let s := serve (cb 0x02 0 0x3F80 0x80 0 0) 0x42 0x49 0x3FEB
    s.cfg.consts = Consts.document ∧ (0x3FEB : Word).toNat + 21 = s.cfg.cpMemSize
    ∧ (controlBlockAt s.mem 0x3FEB).buf.toNat + 128 = s.cfg.cpMemSize := by decide

theorem test_witness_StorageOutOfRange : (at' .dispatchStorage).cfg.cpMemSize + 1
    = (0x3FF7 : Word).toNat + (at' .dispatchStorage).cfg.consts.cbLen := by decide

/-- A READ with a next state, and the addresses next to its block and its buffer. -/
theorem test_witness_StorageFrame : let s := serve (cb 0x02 0 0x1000 0x80 0 0) 0x58 0x58
    (∃ t, exec (.storage 0x2000 0 0) s = .next t) ∧ (controlBlockAt s.mem 0x2000).opc = s.cfg.consts.opRead
    ∧ (∀ a ∈ [0x0FFF, 0x1080, 0x1FFF, 0x200A], (a < 0x2000 ∨ 0x2000 + 10 ≤ a)
      ∧ (a < (controlBlockAt s.mem 0x2000).buf.toNat
        ∨ (controlBlockAt s.mem 0x2000).buf.toNat + s.cfg.consts.recSize ≤ a)) :=
  ⟨⟨_, rfl⟩, by decide, by decide⟩

theorem test_witness_HaltingClassesFrame : (∃ t, exec (.error 1 0 0 0) (at' .dispatchError) = .next t)
    ∧ ∃ t, exec (.success 0 0) (at' .dispatchSuccess) = .next t := ⟨⟨_, rfl⟩, ⟨_, rfl⟩⟩

theorem test_witness_CloseCompletes : (inService (cb 0x01 0 0 0 0 0) 0 0).documented := rfl

/-- An accepted and a flagged attribute, the block at the end of memory. -/
theorem test_witness_OpenCompletes : let s := inService (cb 0x00 0x5A 0 0x80 0 0) 0 0 0x3FF6
    s.cfg.consts = Consts.document ∧ s.req.toNat + 10 = s.cfg.cpMemSize ∧ (0x5A : Byte) = s.cfg.openAttr
    ∧ (0x1A : Byte) ≠ s.cfg.openAttr := by decide

theorem test_witness_InvalidCompletes : let s := inService (cb 0x03 0 0 0 0 0) 0 0 0x3FF6
    s.cfg.consts = Consts.document ∧ s.req.toNat + 10 = s.cfg.cpMemSize := by decide

theorem test_witness_LengthCheckRejects : let s := inService (cb 0x02 0 0 0x7F 0 0) 0 0 0x3FF6
    s.cfg.consts = Consts.document ∧ s.req.toNat + 10 = s.cfg.cpMemSize ∧ (0x7F : Byte) ≠ 0x80 ∧ (0x81 : Byte) ≠ 0x80 := by decide

/-- Each condition of the flags: bad length, an attribute that is and one that is not OPEN_ATTR, a tag out of range, no file,
record 1007 inside file 1, 1008 past it, and file 2's 1008 below B0 (V-R5, V-R6, V-R10). -/
theorem test_witness_AtMostOneFlag : (inService (cb 0x02 0x40 0 0x80 0 0) 0x58 0x58).documented
    ∧ ((0x7F : Byte) ≠ 0x80 ∧ (0x5A : Byte) = Config.ex.openAttr ∧ (0x1A : Byte) ≠ Config.ex.openAttr)
    ∧ Config.ex.cpMemSize + 1 = (0x3FEC : Word).toNat + 21
    ∧ resolveTag .ex ⟨0x58, 0x58⟩ = none
    ∧ (1007 / 126 + firstBank .ex .file1) % 2 ^ Config.ex.bankW + 1 = nextBank .ex .file1
    ∧ (1008 / 126 + firstBank .ex .file1) % 2 ^ Config.ex.bankW = nextBank .ex .file1
    ∧ (1008 / 126 + firstBank .ex .file2) % 2 ^ Config.ex.bankW < Config.ex.b0 := by
  refine ⟨rfl, ?_⟩; decide

/-- A next state for each of OPEN, CLOSE and INVALID, and the addresses next to the block. -/
theorem test_witness_RequestFrame : let s := inService (cb 0x00 0 0 0x80 0 0) 0 0
    (∀ i ∈ [Instr.openReq ⟨0, 0, 0x80, 0, 0, 0, 0⟩, .closeReq ⟨0, 0, 0x80, 0, 0, 0, 0⟩, .invalidReq 3 ⟨0, 0, 0x80, 0, 0, 0, 0⟩],
      seen (fun _ => ()) (exec i s) = some ())
    ∧ (∀ a ∈ [0x1FFF, 0x200A], a < s.req.toNat ∨ s.req.toNat + 10 ≤ a) := by decide

/-- V-R1 and V-R5, the block at the last address and the buffer at the last address (V-E5). -/
theorem test_witness_ReadTransfers : let s := inService (cb 0x02 0 0x3F80 0x80 0 0) 0x42 0x49 0x3FEB
    s.cfg.consts = Consts.document ∧ s.req.toNat + 21 = s.cfg.cpMemSize ∧ (0x3F80 : Word).toNat + 128 = s.cfg.cpMemSize
    ∧ resolveTag s.cfg (tagAt s.mem (s.req.toNat + 19)) = some .file1
    ∧ translateRecord s.cfg .file1 0 = some (0xF0, 0) ∧ translateRecord s.cfg .file1 1007 = some (0xF7, 0x3E80) := by decide

/-- V-T6. -/
theorem test_witness_ReadBadName : let s := inService (cb 0x02 0xA0 0x1000 0x80 0 0) 0x58 0x58
    s.cfg.consts = Consts.document ∧ s.req.toNat + 21 ≤ s.cfg.cpMemSize ∧ tagAt s.mem (s.req.toNat + 19) ≠ ⟨0x42, 0x49⟩
    ∧ tagAt s.mem (s.req.toNat + 19) ≠ s.cfg.tag2 := by decide

/-- The two tags and one that is neither: V-T1, V-T2, V-T3. -/
theorem test_witness_TagSelectsFile : Config.ex.consts = .document
    ∧ (⟨0x5A, 0x32⟩ : Tag) = Config.ex.tag2 ∧ (⟨0x62, 0x69⟩ : Tag) ≠ Config.ex.tag2
    ∧ ((0x5A : Byte) ≠ 0x42 ∧ (0x62 : Byte) ≠ 0x42) := by decide

/-- The last record of each file (V-R5, V-R8), block, tag and buffer at the end of memory; the buffer's bytes next to the block. -/
theorem test_witness_ReadRecordOfFile :
    (let s := inService (cb 0x02 0 0x3F80 0x80 0 1007) 0x42 0x49 0x3FEB;
      s.cfg.consts = Consts.document ∧ s.cfg.wf = true ∧ Memory.wf s.mem = true ∧ s.req.toNat + 21 = s.cfg.cpMemSize
      ∧ (0x3F80 : Word).toNat + 128 = s.cfg.cpMemSize ∧ tagAt s.mem (s.req.toNat + 19) = ⟨0x42, 0x49⟩
      ∧ 1007 + 1 = (s.cfg.b1 - s.cfg.b0) * 126
      ∧ (0x3F80 : Word).toNat + 106 + 1 = s.req.toNat ∧ (0x3F80 : Word).toNat + 117 = s.req.toNat + 10)
    ∧ (let s := inService (cb 0x02 0 0x1000 0x80 0 881) 0x5A 0x32;
      s.cfg.consts = Consts.document ∧ s.cfg.wf = true ∧ Memory.wf s.mem = true ∧ s.req.toNat + 21 ≤ s.cfg.cpMemSize
      ∧ (0x1000 : Word).toNat + 128 ≤ s.cfg.cpMemSize ∧ tagAt s.mem (s.req.toNat + 19) = s.cfg.tag2
      ∧ 881 + 1 = (s.cfg.b2 - s.cfg.b1) * 126 ∧ (0x1000 : Word).toNat + 127 < s.req.toNat) := by decide

/-- V-R6 for the upper bound, V-R10 for the lower. -/
theorem test_witness_ReadPastEnd :
    (let s := inService (cb 0x02 0 0x1000 0x80 0 1008) 0x42 0x49;
      resolveTag s.cfg (tagAt s.mem (s.req.toNat + 19)) = some .file1
      ∧ (1008 / 126 + firstBank s.cfg .file1) % 2 ^ s.cfg.bankW = nextBank s.cfg .file1)
    ∧ (let s := inService (cb 0x02 0 0x1000 0x80 0 1008) 0x5A 0x32;
      resolveTag s.cfg (tagAt s.mem (s.req.toNat + 19)) = some .file2
      ∧ (1008 / 126 + firstBank s.cfg .file2) % 2 ^ s.cfg.bankW < s.cfg.b0) := by decide

theorem test_witness_ReadTagOutOfRange : let s := inService (cb 0x02 0 0x1000 0x80 0 0) 0x42 0x49 0x3FEC
    s.cfg.consts = Consts.document ∧ s.cfg.cpMemSize + 1 = s.req.toNat + 21 := by decide

theorem test_witness_ReadBufferOutOfRange : let s := inService (cb 0x02 0 0x3F81 0x80 0 0) 0x42 0x49
    s.cfg.consts = Consts.document ∧ s.req.toNat + 21 ≤ s.cfg.cpMemSize ∧ s.cfg.cpMemSize + 1 = (0x3F81 : Word).toNat + 128
    ∧ resolveTag s.cfg (tagAt s.mem (s.req.toNat + 19)) = some .file1 ∧ translateRecord s.cfg .file1 0 = some (0xF0, 0) := by
  decide

/-- V-X1's overlap: 0x2000 and 0x2009 lie in the block and the buffer, 0x200A and 0x207B in the buffer only, 0x207C in neither. -/
theorem test_witness_ReadLeavesInMemory : let s := inService (cb 0x02 0 0x1FFC 0x80 0 0) 0x42 0x49
    s.cfg.consts = Consts.document ∧ Memory.wf s.mem = true ∧ s.req.toNat + 21 ≤ s.cfg.cpMemSize
    ∧ (0x1FFC : Word).toNat + 128 ≤ s.cfg.cpMemSize ∧ resolveTag s.cfg (tagAt s.mem (s.req.toNat + 19)) = some .file1
    ∧ translateRecord s.cfg .file1 0 = some (0xF0, 0)
    ∧ (∀ a ∈ [0x2000, 0x2009], s.req.toNat ≤ a ∧ a < s.req.toNat + 10)
    ∧ (∀ a ∈ [0x1FFC, 0x200A, 0x207B], (0x1FFC : Word).toNat ≤ a ∧ a < (0x1FFC : Word).toNat + 128)
    ∧ (0x1FFC : Word).toNat + 128 = 0x207C := by decide

/-- A READ without a transfer and one with, and the addresses next to the block and the buffer. -/
theorem test_witness_ReadFrame : let f : RequestFields := ⟨0, 0x1000, 0x80, 0, 0, 0, 0⟩
    readTarget f (inService (cb 0x02 0 0x1000 0x80 0 0) 0x58 0x58) = none
    ∧ (∃ t, exec (.readReq f) (inService (cb 0x02 0 0x1000 0x80 0 0) 0x58 0x58) = .next t)
    ∧ readTarget f (inService (cb 0x02 0 0x1000 0x80 0 0) 0x42 0x49) = some (0xF0, 0)
    ∧ (∀ a ∈ [0x0FFF, 0x1080, 0x1FFF, 0x200A], (a < 0x2000 ∨ 0x2000 + 10 ≤ a) ∧ (a < f.buf.toNat ∨ f.buf.toNat + 128 ≤ a)) :=
  ⟨by decide, ⟨_, rfl⟩, by decide, by decide⟩

theorem test_witness_ReadIgnoresOldBank : let f : RequestFields := ⟨0, 0x1000, 0x80, 0, 0, 0, 0⟩
    let s := inService (cb 0x02 0 0x1000 0x80 0 0) 0x42 0x49
    readTarget f s ≠ none ∧ seen (fun t => t.seq) (exec (.readReq f) s) = some .running := by decide +kernel

/-- The last records of both files (V-R5, V-R8). -/
theorem test_witness_RecordsOfFileSucceed : Config.ex.wf = true ∧ Config.ex.consts = .document
    ∧ 1007 + 1 = (nextBank .ex .file1 - firstBank .ex .file1) * 126
    ∧ 881 + 1 = (nextBank .ex .file2 - firstBank .ex .file2) * 126 := by decide

/-- V-R16's configuration. -/
theorem test_witness_NoAliasingUnderCondition :
    let c : Config := { Config.ex with bankW := 16, b0 := 0xFFF0, b1 := 0xFFF8, b2 := 0xFFFF }
    c.wf = true ∧ c.consts = .document ∧ c.noAliasing = true := by decide

/-- V-R2: the last record of a bank, at the greatest offset. -/
theorem test_witness_RecordInsideBank : Config.ex.consts = .document ∧ translateRecord .ex .file1 125 = some (0xF0, 16000) := by
  decide

/-- V-R1 and V-R8: the least and the greatest bank. -/
theorem test_witness_BanksInsideFiles : Config.ex.wf = true ∧ translateRecord .ex .file1 0 = some (0xF0, 0)
    ∧ translateRecord .ex .file2 881 = some (0xFE, 0x3E80) := by decide

end Sys2Proof.Tests
end

section
/-! PROOFS of the statements about the sequencer's range faults and the machine's invariant. -/

namespace Sys2Proof.Machine

/-! ## An access of the sequencer that is out of range -/

/-- PROBE_LOAD faults where the payload does not lie in co-processor memory (40_supervisor.md R111). -/
theorem stepProbeLoad_outside {s : State} (hw : s.cfg.wf = true)
    (h : s.cfg.cpMemSize < s.cfg.progStart + s.cfg.probePayload.length) :
    stepProbeLoad s = .next (raiseFault .cpRange s) := by
  rw [stepProbeLoad, if_pos hw, memWrite_outside h]

/-- PROBE_CHECK faults where the two bytes do not lie in co-processor memory (R113). -/
theorem stepProbeCheck_outside {s : State} (h : s.cfg.cpMemSize < s.cfg.progStart + 2) :
    stepProbeCheck s = .next (raiseFault .cpRange s) := by
  rw [stepProbeCheck, fetchBytes_outside h]

/-- UPLOAD faults where the payload does not lie in co-processor memory (R115). -/
theorem stepUpload_outside {s : State} (h : s.cfg.cpMemSize < s.cfg.progStart + s.cfg.updatePayload.length) :
    stepUpload s = .next (raiseFault .cpRange s) := by
  rw [stepUpload, memWrite_outside h]

/-- CHECK_RESULT faults where the status block does not lie in co-processor memory (R120). -/
theorem stepCheckResult_outside {s : State} (h : s.cfg.cpMemSize < s.cfg.statusAddr + 2 * s.cfg.consts.sbWords) :
    stepCheckResult s = .next (raiseFault .cpRange s) := by
  rw [stepCheckResult, fetchBytes_outside h]

/-- Settles O16: the co-processor's move keeps configuration and sequencer, and each of the four handler steps makes its
access first. -/
theorem sequencerRangeFaults : Obligations.SequencerRangeFaults := by
  intro s h
  obtain ⟨hcfg, hseq, -⟩ := cpTurn_keeps s
  rw [← raiseFault_eq, step, handlerStep, hseq]
  rw [← hcfg] at h
  rcases h with ⟨hs, hw, hr⟩ | ⟨hs, hr⟩ | ⟨hs, hr⟩ | ⟨hs, hr⟩ <;> rw [hs]
  · exact stepProbeLoad_outside hw hr
  · exact stepProbeCheck_outside hr
  · exact stepUpload_outside hr
  · exact stepCheckResult_outside hr

/-! ## The parts of the invariant

`Confined s` is what `MachineInv` says of the stores and the trace past PROBE_LOAD; `Working s` adds that nothing has been output
and no fault latched. Neither speaks of the sequencer, so the operations inside a step keep them, and a step's proof ends by
entering a sequencer state. -/

/-- The clauses of `MachineInv` on memory, trace, bank and configuration, past PROBE_LOAD. -/
structure Confined (s : State) : Prop where
  cfgWf : s.cfg.wf = true
  memWf : Memory.wf s.mem = true
  memInside : ∀ c ∈ s.mem, c.1 < s.cfg.cpMemSize
  traceInside : ∀ e ∈ s.trace, e.withinMemory s.cfg.cpMemSize = true
  bank : s.bankSel = s.cfg.bankReset % 2 ^ s.cfg.bankW ∨ (s.cfg.b0 ≤ s.bankSel ∧ s.bankSel < s.cfg.b2)

/-- Confined, with nothing output and no fault latched: every state with the invariant but the terminal ones. -/
structure Working (s : State) : Prop extends Confined s where
  fault : s.fault = .none
  ind : s.ind = .none
  msg : s.msg = .none

variable {s t : State}

theorem MachineInv.confined (h : MachineInv s) (hw : s.cfg.wf = true) : Confined s :=
  ⟨hw, h.memWf, h.memInside, h.traceInside, h.bank⟩

/-- A latch that only a terminal state sets is clear in every other state. -/
theorem MachineInv.working (h : MachineInv s) (hw : s.cfg.wf = true) (hs : s.seq.terminal = false) : Working s := by
  simp only [SeqState.terminal, Bool.or_eq_false_iff, beq_eq_false_iff_ne] at hs
  obtain ⟨⟨hsuccess, hfailure⟩, hfault⟩ := hs
  refine { h.confined hw with fault := ?_, ind := ?_, msg := not_not.1 (mt h.msgOnlyFailure hfailure) }
  · cases hf : s.fault with
    | none => rfl
    | cpRange => exact absurd (h.faultLatch.1 hf) hfault
  · cases hi : s.ind with
    | none => rfl
    | success => exact absurd (h.indSuccess.1 hi) hsuccess
    | failure => exact absurd (h.indFailure.1 hi) hfailure

/-- A record is read from a bank of one of the two files (20_memory.md R60, 70_reset_and_hazards.md R234). -/
theorem translateRecord_bank {c : Config} (hw : c.wf = true) {file : VirtualFile} {n bank off : Nat}
    (h : translateRecord c file n = some (bank, off)) : c.b0 ≤ bank ∧ bank < c.b2 := by
  simp only [Config.wf, Bool.and_eq_true, decide_eq_true_eq] at hw
  obtain ⟨⟨⟨⟨-, hlast⟩, -⟩, -⟩, -⟩ := hw
  have hnext : nextBank c file ≤ c.b2 := by cases file <;> simp only [nextBank] <;> omega
  simp only [translateRecord] at h
  split at h <;> cases h
  omega

/-! Which status blocks each DISPATCH state is for (30_encoding.md R82). -/

theorem dispatchSeq_eq_error {b : StatusBlock} : dispatchSeq b.dispatch = .dispatchError ↔ b.result ≠ 0 := by
  rw [dispatchSeq_dispatch]; split_ifs <;> simp_all

theorem dispatchSeq_eq_storage {b : StatusBlock} :
    dispatchSeq b.dispatch = .dispatchStorage ↔ b.result = 0 ∧ b.request ≠ 0 := by
  rw [dispatchSeq_dispatch]; split_ifs <;> simp_all

theorem dispatchSeq_eq_success {b : StatusBlock} :
    dispatchSeq b.dispatch = .dispatchSuccess ↔ b.result = 0 ∧ b.request = 0 := by
  rw [dispatchSeq_dispatch]; split_ifs <;> simp_all

namespace Confined

/-- A confined state without output that has not halted has the invariant, once latches and sequencer agree. -/
theorem machineInv (h : Confined s) (hi : s.ind = .none) (hm : s.msg = .none) (hf : s.fault = .cpRange ↔ s.seq = .fault)
    (hs : s.seq ≠ .haltSuccess ∧ s.seq ≠ .haltFailure) (hp : s.seq.afterProbe = true → s.capPresent = true)
    (hb : s.seq.coprocessorHalted = true → s.cpBusy = false)
    (hclass : s.seq = dispatchSeq s.sb.dispatch ∨
      (s.seq ≠ .dispatchError ∧ s.seq ≠ .dispatchStorage ∧ s.seq ≠ .dispatchSuccess)) : MachineInv s where
  memWf := h.memWf
  memInside := h.memInside
  traceInside := h.traceInside
  cfgWf _ := h.cfgWf
  faultLatch := hf
  indSuccess := by simp [hi, hs.1]
  indFailure := by simp [hi, hs.2]
  msgOnlyFailure hn := absurd hm hn
  msgUnsupported hu := by simp [hm] at hu
  msgMismatch hu := by simp [hm] at hu
  probePassed := hp
  halted := hb
  classError hq := dispatchSeq_eq_error.1 ((hclass.resolve_right fun hn => hn.1 hq).symm.trans hq)
  classStorage hq := dispatchSeq_eq_storage.1 ((hclass.resolve_right fun hn => hn.2.1 hq).symm.trans hq)
  classSuccess hq := dispatchSeq_eq_success.1 ((hclass.resolve_right fun hn => hn.2.2 hq).symm.trans hq)
  bank := h.bank

/-- FAULT asks nothing of the other latches. -/
theorem machineInv_fault (h : Confined s) (hi : s.ind = .none) (hm : s.msg = .none) (hf : s.fault = .cpRange)
    (hs : s.seq = .fault) : MachineInv s :=
  h.machineInv hi hm (by simp [hf, hs]) (by simp [hs]) (by simp [hs, SeqState.afterProbe])
    (by simp [hs, SeqState.coprocessorHalted]) (by simp [hs])

/-- A service keeps what is confined: its accesses lie in memory, its bank in a file (42_storage_read.md R179). -/
theorem of_serviceEnd (h : Confined s) (he : ServiceEnd s t) : Confined t := by
  have hcfg : t.cfg = s.cfg := by rw [he.keeps]
  refine ⟨hcfg ▸ h.cfgWf, he.wf h.memWf, hcfg ▸ he.inside h.memInside, fun e hm => ?_, ?_⟩
  · rw [hcfg]
    rcases he.ends with ⟨es, -, -, -, htrace, hes⟩ | ⟨es, -, -, -, htrace, hes⟩ <;>
      simp only [htrace, List.mem_append, List.mem_singleton] at hm
    · rcases hm with (hm | hm) | rfl
      exacts [h.traceInside e hm, Event.ofService_within (hes e hm), rfl]
    · exact hm.elim (h.traceInside e) fun hm => Event.ofService_within (hes e hm)
  · rw [hcfg]
    rcases he.bank with hb | ⟨file, n, off, hb⟩
    · rw [hb]; exact h.bank
    · exact .inr (translateRecord_bank h.cfgWf hb)

theorem record (h : Confined s) {e : Event} (he : e.withinMemory s.cfg.cpMemSize = true) : Confined (s.record e) :=
  { h with traceInside := fun x hx => (List.mem_append.1 hx).elim (h.traceInside x) fun hx => List.mem_singleton.1 hx ▸ he }

/-- HALT_FAILURE shows IND FAILURE; a message already shown tells why (40_supervisor.md R113, R122, R128). -/
theorem enterHaltFailure (h : Confined s) (hf : s.fault = .none) (hu : s.msg = .unsupported → s.capPresent = false)
    (hm : s.msg = .checksumMismatch → s.capPresent = true ∧ s.sb.result ≠ 0 ∧ s.sb.computed ≠ s.sb.expected) :
    MachineInv (enterHaltFailure s) := by
  have hr := h.record (e := .emit .indFailure) rfl
  rw [enterHaltFailure_eq]
  exact { hr with
    cfgWf := fun _ => h.cfgWf, faultLatch := by simp [hf], indSuccess := by simp, indFailure := by simp
    msgOnlyFailure := fun _ => rfl, msgUnsupported := hu, msgMismatch := hm
    probePassed := nofun, halted := nofun
    classError := nofun, classStorage := nofun, classSuccess := nofun }

end Confined

namespace Working

theorem record (h : Working s) {e : Event} (he : e.withinMemory s.cfg.cpMemSize = true) : Working (s.record e) :=
  { h with toConfined := h.toConfined.record he }

theorem read (h : Working s) {a n : Nat} (hr : a + n ≤ s.cfg.cpMemSize) :
    Working (s.record (.memRead a (s.mem.readBytes a n))) :=
  h.record (by simpa [Event.withinMemory] using hr)

theorem write (h : Working s) {a : Nat} {bs : List Byte} (hr : a + bs.length ≤ s.cfg.cpMemSize) :
    Working ((s.setMem (s.mem.writeBytes a bs)).record (.memWrite a bs)) := by
  have hm : Working (s.setMem (s.mem.writeBytes a bs)) :=
    { h with
      memWf := Memory.writeBytes_wf h.memWf a bs
      memInside := fun c hc => (Memory.mem_writeBytes hc).elim (h.memInside c) fun hc => hc.2.trans_le hr }
  exact hm.record (decide_eq_true hr)

theorem cpStart (h : Working s) (a : Nat) : Working (cpStart a s) :=
  record (s := (s.setCpEntry a).setCpBusy true) { h with } rfl

/-- A working state whose sequencer state is not terminal has the invariant, once its latches and sequencer agree. -/
theorem machineInv (h : Working s) (hs : s.seq.terminal = false) (hp : s.seq.afterProbe = true → s.capPresent = true)
    (hb : s.seq.coprocessorHalted = true → s.cpBusy = false)
    (hclass : s.seq = dispatchSeq s.sb.dispatch ∨
      (s.seq ≠ .dispatchError ∧ s.seq ≠ .dispatchStorage ∧ s.seq ≠ .dispatchSuccess)) : MachineInv s := by
  simp only [SeqState.terminal, Bool.or_eq_false_iff, beq_eq_false_iff_ne] at hs
  exact h.toConfined.machineInv h.ind h.msg (by simp [h.fault, hs.2]) hs.1 hp hb hclass

theorem raiseFault (h : Working s) : MachineInv (raiseFault .cpRange s) :=
  Confined.machineInv_fault (s := Machine.raiseFault .cpRange s) { h with } h.ind h.msg rfl rfl

theorem enter_probeCheck (h : Working s) : MachineInv (s.setSeq .probeCheck) :=
  machineInv (s := s.setSeq .probeCheck) { h with } rfl nofun nofun (by simp)

theorem enter_upload (h : Working s) (hp : s.capPresent = true) (hb : s.cpBusy = false) : MachineInv (s.setSeq .upload) :=
  machineInv (s := s.setSeq .upload) { h with } rfl (fun _ => hp) (fun _ => hb) (by simp)

theorem enter_running (h : Working s) (hp : s.capPresent = true) : MachineInv (s.setSeq .running) :=
  machineInv (s := s.setSeq .running) { h with } rfl (fun _ => hp) nofun (by simp)

theorem enter_checkResult (h : Working s) (hp : s.capPresent = true) (hb : s.cpBusy = false) :
    MachineInv (s.setSeq .checkResult) :=
  machineInv (s := s.setSeq .checkResult) { h with } rfl (fun _ => hp) (fun _ => hb) (by simp)

/-- The DISPATCH state of the block latched holds a block of its class (30_encoding.md R82). -/
theorem enter_dispatch (h : Working s) (hp : s.capPresent = true) (hb : s.cpBusy = false) (b : StatusBlock) :
    MachineInv ((s.setSb b).setSeq (dispatchSeq b.dispatch)) :=
  machineInv (s := (s.setSb b).setSeq (dispatchSeq b.dispatch)) { h with }
    (by cases b.dispatch <;> rfl) (fun _ => hp) (fun _ => hb) (.inl rfl)

/-- HALT_SUCCESS shows IND SUCCESS and no message (40_supervisor.md R129). -/
theorem enterHaltSuccess (h : Working s) (hp : s.capPresent = true) (hb : s.cpBusy = false) :
    MachineInv (enterHaltSuccess s) := by
  have hr := h.toConfined.record (e := .emit .indSuccess) rfl
  rw [enterHaltSuccess_eq]
  exact { hr with
    cfgWf := fun _ => h.cfgWf, faultLatch := by simp [h.fault], indSuccess := by simp, indFailure := by simp
    msgOnlyFailure := by simp [h.msg], msgUnsupported := by simp [h.msg], msgMismatch := by simp [h.msg]
    probePassed := fun _ => hp, halted := fun _ => hb
    classError := nofun, classStorage := nofun, classSuccess := nofun }

/-- Forwarding a key faults or goes on with a working state, its busy bit and capability kept (R117). -/
theorem forwardKey (h : Working s) {k : State → State}
    (hk : ∀ u, Working u → u.cpBusy = s.cpBusy → u.capPresent = s.capPresent → MachineInv (k u)) :
    MachineInv (forwardKey s k) := by
  have hpoll : Working (((s.setKeyScript s.keyScript.tail).setDrawn (s.drawn + 1)).record (.pollKey (nextKey s))) :=
    record (s := (s.setKeyScript s.keyScript.tail).setDrawn (s.drawn + 1)) { h with } rfl
  unfold Machine.forwardKey pollKey
  beta_reduce
  refine memWrite_elim (P := MachineInv) (fun hr => ?_) fun _ => hpoll.raiseFault
  exact hk _ (hpoll.write hr) (by simp) (by simp)

end Working

/-! ## The invariant after each handler step -/

theorem stepProbeLoad_keeps_inv (h : MachineInv s) (hs : s.seq = .probeLoad) (ht : stepProbeLoad s = .next t) :
    MachineInv t := by
  unfold stepProbeLoad at ht
  split at ht <;> cases ht
  rename_i hw
  have hwork := h.working hw (by rw [hs]; rfl)
  exact memWrite_elim (P := MachineInv) (fun hr => ((hwork.write hr).cpStart _).enter_probeCheck) fun _ => hwork.raiseFault

theorem stepProbeCheck_keeps_inv (h : Working s) (ht : stepProbeCheck s = .next t) : MachineInv t := by
  rcases stepProbeCheck_cases ht with rfl | ⟨hb, hr, rfl⟩ | ⟨hr, rfl⟩
  · exact h.raiseFault
  · exact Working.enter_upload { h.read hr with } rfl hb
  · have hmsg := (h.read hr).record (e := .emit .msgUnsupported) rfl
    exact Confined.enterHaltFailure { hmsg with } h.fault (fun _ => rfl) nofun

theorem stepUpload_keeps_inv (h : Working s) (hp : s.capPresent = true) (ht : stepUpload s = .next t) : MachineInv t := by
  cases ht
  exact memWrite_elim (P := MachineInv)
    (fun hr => ((h.write hr).cpStart _).enter_running (by simp [cpStart, hp])) fun _ => h.raiseFault

/-- The end of a RUNNING cycle in either key order: on with RUNNING while busy, else to CHECK_RESULT (R117). -/
theorem Working.afterPoll (h : Working s) (hp : s.capPresent = true) :
    MachineInv (if s.cpBusy then s.setSeq .running else s.setSeq .checkResult) := by
  split
  · exact h.enter_running hp
  · rename_i hb
    exact h.enter_checkResult hp (Bool.eq_false_of_not_eq_true hb)

theorem stepRunning_keeps_inv (h : Working s) (hp : s.capPresent = true) (ht : stepRunning s = .next t) : MachineInv t := by
  cases ht
  split
  · have hpoll := h.record (e := .cpBusy s.cpBusy) rfl
    unfold pollBusy
    beta_reduce
    split
    · exact hpoll.forwardKey fun u hu _ hcap => hu.enter_running (hcap.trans hp)
    · rename_i hb
      exact hpoll.enter_checkResult hp (Bool.eq_false_of_not_eq_true hb)
  · exact h.forwardKey fun u hu _ hcap => (hu.record (e := .cpBusy u.cpBusy) rfl).afterPoll (hcap.trans hp)

theorem stepCheckResult_keeps_inv (h : Working s) (hp : s.capPresent = true) (hb : s.cpBusy = false)
    (ht : stepCheckResult s = .next t) : MachineInv t := by
  rcases stepCheckResult_cases ht with rfl | ⟨b, -, rfl, hr⟩
  · exact h.raiseFault
  · exact (h.read hr).enter_dispatch hp hb b

/-- The mismatch message is shown only when the latched checksums differ (R122, 30_encoding.md R83). -/
theorem execError_keeps_inv (h : Working s) (hp : s.capPresent = true) (hr : s.sb.result ≠ 0)
    (ht : exec (latchedError s) s = .next t) : MachineInv t := by
  cases ht
  split
  · rename_i hm
    exact Confined.enterHaltFailure { h.record (e := .emit .msgChecksumMismatch) rfl with } h.fault nofun
      fun _ => ⟨hp, hr, bne_iff_ne.1 hm⟩
  · exact h.toConfined.enterHaltFailure h.fault (by simp [h.msg]) (by simp [h.msg])

/-- A service ends in RUNNING or in FAULT (R125). -/
theorem execStorage_keeps_inv (h : Working s) (hp : s.capPresent = true) (ht : exec (latchedStorage s) s = .next t) :
    MachineInv t := by
  have he := execStorage_end (computed := s.sb.computed) (expected := s.sb.expected) ht
  have hc : Confined t := Confined.of_serviceEnd (s := { s with req := s.sb.request }) { h with } he
  have hcap : t.capPresent = true := by rw [he.keeps]; exact hp
  have hind : t.ind = .none := by rw [he.keeps]; exact h.ind
  have hmsg : t.msg = .none := by rw [he.keeps]; exact h.msg
  rcases he.ends with ⟨-, hseq, -, hfault, -⟩ | ⟨-, hseq, -, hfault, -⟩
  · have hw : Working t := { hc with fault := hfault.trans h.fault, ind := hind, msg := hmsg }
    have := hw.enter_running hcap
    rwa [State.setSeq, ← hseq] at this
  · exact hc.machineInv_fault hind hmsg hfault hseq

theorem execSuccess_keeps_inv (h : Working s) (hp : s.capPresent = true) (hb : s.cpBusy = false)
    (ht : exec (latchedSuccess s) s = .next t) : MachineInv t := by
  cases ht
  exact h.enterHaltSuccess hp hb

/-- The co-processor's move keeps the invariant: it writes inside its memory, and it moves only where it may run. -/
theorem cpTurn_keeps_inv (h : MachineInv s) : MachineInv (cpTurn s) := by
  by_cases hb : s.cpBusy = true
  · rw [cpTurn_running hb]
    exact { h with
      memWf := cpWrites_wf h.memWf _ _
      memInside := cpWrites_inside h.memInside _
      halted := fun hq => absurd hb (by simp [h.halted hq]) }
  · rwa [cpTurn_halted (Bool.eq_false_of_not_eq_true hb)]

theorem handlerStep_keeps_inv (h : MachineInv s) (ht : handlerStep s = .next t) : MachineInv t := by
  have hwork (hload : s.seq ≠ .probeLoad) : s.seq.terminal = false → Working s := h.working (h.cfgWf hload)
  have hcap := h.probePassed
  have hhalt := h.halted
  unfold handlerStep at ht
  split at ht <;> rename_i hs <;> simp only [hs] at hwork hcap hhalt
  · exact stepProbeLoad_keeps_inv h hs ht
  · exact stepProbeCheck_keeps_inv (hwork nofun rfl) ht
  · exact stepUpload_keeps_inv (hwork nofun rfl) (hcap rfl) ht
  · exact stepRunning_keeps_inv (hwork nofun rfl) (hcap rfl) ht
  · exact stepCheckResult_keeps_inv (hwork nofun rfl) (hcap rfl) (hhalt rfl) ht
  · exact execError_keeps_inv (hwork nofun rfl) (hcap rfl) (h.classError hs) ht
  · exact execStorage_keeps_inv (hwork nofun rfl) (hcap rfl) ht
  · exact execSuccess_keeps_inv (hwork nofun rfl) (hcap rfl) (hhalt rfl) ht
  · cases ht; exact h
  · cases ht; exact h
  · cases ht; exact h

/-- Settles O9: the co-processor's move keeps the invariant, and so does the handler step of every sequencer state. -/
theorem invariantKept : Obligations.InvariantKept :=
  fun _ _ h ht => handlerStep_keeps_inv (cpTurn_keeps_inv h) ht

end Sys2Proof.Machine
end

section
/-! PROOFS of the statements about the state: what reset leaves, the terminal states, which step writes which latch, and READ's frame
and bank. -/

namespace Sys2Proof.Machine

variable {s t : State}

/-! ## Reset -/

/-- Settles O7: a BANK_RESET that is a bank number is its own remainder mod 2^BANK_W. -/
theorem resetState : Obligations.ResetState :=
  ⟨fun _ => ⟨rfl, rfl, fun hbank => Nat.mod_eq_of_lt hbank, rfl, rfl, rfl, rfl, rfl⟩, fun _ => rfl⟩

/-- At reset nothing is stored, nothing has been output and the co-processor is halted (10_state.md R34). -/
theorem machineInv_resetWith (c : Config) : MachineInv (State.resetWith c) where
  memWf := rfl
  memInside := nofun
  traceInside := nofun
  cfgWf hload := absurd rfl hload
  faultLatch := ⟨nofun, nofun⟩
  indSuccess := ⟨nofun, nofun⟩
  indFailure := ⟨nofun, nofun⟩
  msgOnlyFailure hmsg := absurd rfl hmsg
  msgUnsupported := nofun
  msgMismatch := nofun
  probePassed := nofun
  halted _ := rfl
  classError := nofun
  classStorage := nofun
  classSuccess := nofun
  bank := .inl rfl

/-- Settles O8: State.reset is the reset state of one configuration. -/
theorem invariantAtReset : Obligations.InvariantAtReset :=
  ⟨machineInv_resetWith, machineInv_resetWith Config.ex⟩

/-! ## The terminal states -/

/-- In a terminal state the handler does nothing; a co-processor still running makes its move (10_state.md R22). -/
theorem step_terminal (hs : s.seq.terminal = true) : step s = .next (cpTurn s) := by
  obtain ⟨-, hseq, -⟩ := cpTurn_keeps s
  simp only [SeqState.terminal, Bool.or_eq_true, beq_iff_eq] at hs
  rw [step, handlerStep, hseq]
  rcases hs with (hs | hs) | hs <;> rw [hs]

/-- A run whose first step answers goes on from the state it answers. -/
theorem run_succ {n : Nat} (h : step s = .next t) : Host.Core.run core (n + 1) s = Host.Core.run core n t := by
  have hstep : core.step s = .next t := h
  simp only [Host.Core.run, hstep]

/-- Settles O12, by induction on the number of steps: each is the co-processor's move alone, which keeps the latches. -/
theorem terminalForever : Obligations.TerminalForever := by
  refine fun n s hs => ⟨?_, rfl⟩
  induction n generalizing s with
  | zero => exact ⟨s, rfl, by simp⟩
  | succ n ih =>
    obtain ⟨-, hseq, hcap, hsb, hreq, hcb, htag, hbank, hind, hmsg, hfault, -, -, htrace⟩ := cpTurn_keeps s
    have hrun := ih (cpTurn s) (by rwa [hseq])
    rw [run_succ (step_terminal hs)]
    rwa [hseq, hcap, hsb, hreq, hcb, htag, hbank, hind, hmsg, hfault, htrace] at hrun

/-! ## Which step writes which latch -/

/-- PROBE_LOAD goes on with a fault or with the probe payload written and started (40_supervisor.md R111). -/
theorem stepProbeLoad_cases (h : stepProbeLoad s = .next t) :
    t = raiseFault .cpRange s
    ∨ t = (cpStart s.cfg.progStart ((s.setMem (s.mem.writeBytes s.cfg.progStart s.cfg.probePayload)).record
        (.memWrite s.cfg.progStart s.cfg.probePayload))).setSeq .probeCheck := by
  unfold stepProbeLoad at h
  split at h <;> cases h
  exact memWrite_elim (P := fun u => u = _ ∨ u = _) (fun _ => .inr rfl) fun _ => .inl rfl

/-- UPLOAD goes on with a fault or with the update payload written and started (R115). -/
theorem stepUpload_cases (h : stepUpload s = .next t) :
    t = raiseFault .cpRange s
    ∨ t = (cpStart s.cfg.progStart ((s.setMem (s.mem.writeBytes s.cfg.progStart s.cfg.updatePayload)).record
        (.memWrite s.cfg.progStart s.cfg.updatePayload))).setSeq .running := by
  cases h
  exact memWrite_elim (P := fun u => u = _ ∨ u = _) (fun _ => .inr rfl) fun _ => .inl rfl

/-- Forwarding a key goes on, or faults, with the key source moved on (R117). -/
theorem forwardKey_elim {P : State → Prop} {k : State → State}
    (inside : P (k { s with
      mem := s.mem.write s.cfg.inputAddr (nextKey s), keyScript := s.keyScript.tail, drawn := s.drawn + 1,
      trace := s.trace ++ [.pollKey (nextKey s), .memWrite s.cfg.inputAddr [nextKey s]] }))
    (outside : P { s with
      keyScript := s.keyScript.tail, drawn := s.drawn + 1, trace := s.trace ++ [.pollKey (nextKey s)],
      fault := .cpRange, seq := .fault }) : P (forwardKey s k) := by
  rcases Nat.lt_or_ge s.cfg.inputAddr s.cfg.cpMemSize with h | h
  · rw [forwardKey_inside h]; exact inside
  · rw [forwardKey_outside h]; exact outside

/-- t comes from s by a RUNNING cycle's writes alone: memory, the key source, the sequencer and the trace, and the fault latch on
entering FAULT. -/
def KeyCycle (s t : State) : Prop :=
  t = { s with mem := t.mem, keyScript := t.keyScript, drawn := t.drawn, seq := t.seq, fault := t.fault, trace := t.trace }
  ∧ (t.seq ≠ .fault → t.fault = s.fault)

/-- RUNNING forwards a key, polls busy, or both, in the configured order (R117, R118). -/
theorem stepRunning_keyCycle (h : stepRunning s = .next t) : KeyCycle s t := by
  cases h
  split
  · unfold pollBusy
    beta_reduce
    split
    · exact forwardKey_elim (P := KeyCycle s) ⟨rfl, fun _ => rfl⟩ ⟨rfl, fun hs => absurd rfl hs⟩
    · exact ⟨rfl, fun _ => rfl⟩
  · refine forwardKey_elim (P := KeyCycle s) ?_ ⟨rfl, fun hs => absurd rfl hs⟩
    unfold pollBusy
    beta_reduce
    split <;> exact ⟨rfl, fun _ => rfl⟩

/-- A service that does not end in FAULT keeps the fault latch (R125, 60_exceptions.md R205). -/
theorem ServiceEnd.fault_eq (h : ServiceEnd s t) (hs : t.seq ≠ .fault) : t.fault = s.fault := by
  rcases h.ends with ⟨-, -, -, hfault, -⟩ | ⟨-, hseq, -⟩
  · exact hfault
  · exact absurd hseq hs

/-- What a service leaves alone, however it ends (41_storage_service.md R159). -/
theorem ServiceEnd.serviceKeeps (h : ServiceEnd s t) : serviceKeeps s t := by
  refine ⟨?_, ?_, ?_, ?_, ?_, ?_, ?_, ?_, ?_, ?_, h.fault_eq⟩ <;> rw [h.keeps]

/-- Settles O13: the co-processor's move writes no latch, and each handler step only those of its sequencer state. -/
theorem latchWriters : Obligations.LatchWriters := by
  intro s t h
  obtain ⟨hcfg, hseq, hcap, hsb, hreq, hcb, htag, hbank, hind, hmsg, hfault, hentry, -⟩ := cpTurn_keeps s
  rw [← hcfg, ← hseq, ← hcap, ← hsb, ← hreq, ← hcb, ← htag, ← hbank, ← hind, ← hmsg, ← hfault, ← hentry]
  change handlerStep (cpTurn s) = .next t at h
  generalize cpTurn s = u at h ⊢
  unfold handlerStep at h
  split at h <;> rename_i hs <;> simp only [hs]
  · rcases stepProbeLoad_cases h with rfl | rfl <;> simp [raiseFault_eq, cpStart_eq]
  · rcases stepProbeCheck_cases h with rfl | ⟨-, -, rfl⟩ | ⟨-, rfl⟩ <;> simp [raiseFault_eq, enterHaltFailure_eq, emit]
  · rcases stepUpload_cases h with rfl | rfl <;> simp [raiseFault_eq, cpStart_eq]
  · obtain ⟨hframe, hfault⟩ := stepRunning_keyCycle h
    rw [hframe] at hfault ⊢
    simpa using hfault
  · rcases stepCheckResult_cases h with rfl | ⟨b, -, rfl, -⟩ <;> simp [raiseFault_eq]
  · cases h
    split <;> simp [enterHaltFailure_eq, emit]
  · have hend := execStorage_end (computed := u.sb.computed) (expected := u.sb.expected) h
    have hfault := hend.fault_eq
    rw [hend.keeps] at hfault ⊢
    simpa using hfault
  · cases h
    simp [enterHaltSuccess_eq]
  · cases h; simp
  · cases h; simp
  · cases h; simp

/-! ## How a READ goes on: the four ways, by its length, its tag bytes' range, its tag and its record number -/

/-- What READ answers when it transfers nothing: no file has the tag, or the record's bank is outside the file (42_storage_read.md
R172, R179). -/
def readError (s : State) : Byte :=
  match resolveTag s.cfg s.tag with
  | none => s.cfg.consts.errBadName
  | some _ => s.cfg.consts.errEof

/-- s after a READ of good length has latched its block and its tag (R171). -/
def tagLatched (f : RequestFields) (s : State) : State :=
  ((latchRequest s.cfg.consts.opRead f s).record (.memRead (s.req.toNat + s.cfg.consts.tagOff)
    (s.mem.readBytes (s.req.toNat + s.cfg.consts.tagOff) 2))).setTag
      (tagOfBytes (s.mem.readBytes (s.req.toNat + s.cfg.consts.tagOff) 2))

theorem readByTag_transfers {bank off : Nat}
    (h : (resolveTag s.cfg s.tag).bind (fun file => translateRecord s.cfg file s.cb.recNo.toNat) = some (bank, off)) :
    readByTag s = transferRecord bank off s := by
  obtain ⟨file, hfile, htarget⟩ := Option.bind_eq_some_iff.1 h
  rw [readByTag, hfile]
  simp only [readFromFile, htarget]

theorem readByTag_rejects
    (h : (resolveTag s.cfg s.tag).bind (fun file => translateRecord s.cfg file s.cb.recNo.toNat) = none) :
    readByTag s = reject (readError s) s := by
  rw [readByTag, readError]
  cases hfile : resolveTag s.cfg s.tag with
  | none => rfl
  | some file =>
    rw [hfile, Option.bind_some] at h
    simp only [readFromFile, h]

variable {f : RequestFields}

/-- A READ of another length than the record's is rejected before its tag is read (41_storage_service.md R154). -/
theorem exec_readReq_badLength (hl : lengthOk s.cfg.consts (ControlBlock.ofFields s.cfg.consts.opRead f) = false) :
    exec (.readReq f) s
      = .next (reject s.cfg.consts.errBadAttr (latchRequest s.cfg.consts.opRead f s)) := by
  have hl' : ¬ lengthOk s.cfg.consts (ControlBlock.ofFields s.cfg.consts.opRead f) = true := by simp [hl]
  exact congrArg Host.Outcome.next (if_neg hl')

theorem exec_readReq_goodLength (hl : lengthOk s.cfg.consts (ControlBlock.ofFields s.cfg.consts.opRead f) = true) :
    exec (.readReq f) s = .next (readTag (latchRequest s.cfg.consts.opRead f s)) :=
  congrArg Host.Outcome.next (if_pos hl)

/-- A READ whose tag bytes are out of range faults (42_storage_read.md R171). -/
theorem exec_readReq_tagOutside (hl : lengthOk s.cfg.consts (ControlBlock.ofFields s.cfg.consts.opRead f) = true)
    (hr : s.cfg.cpMemSize < s.req.toNat + s.cfg.consts.tagOff + 2) :
    exec (.readReq f) s = .next (raiseFault .cpRange (latchRequest s.cfg.consts.opRead f s)) :=
  (exec_readReq_goodLength hl).trans
    (congrArg Host.Outcome.next (memRead_outside (s := latchRequest s.cfg.consts.opRead f s) hr))

theorem exec_readReq_tagInside (hl : lengthOk s.cfg.consts (ControlBlock.ofFields s.cfg.consts.opRead f) = true)
    (hr : s.req.toNat + s.cfg.consts.tagOff + 2 ≤ s.cfg.cpMemSize) :
    exec (.readReq f) s = .next (readByTag (tagLatched f s)) :=
  (exec_readReq_goodLength hl).trans
    (congrArg Host.Outcome.next (memRead_inside (s := latchRequest s.cfg.consts.opRead f s) hr))

/-- A READ of good length without a target reports why (R172, R179). -/
theorem exec_readReq_rejects (hl : lengthOk s.cfg.consts (ControlBlock.ofFields s.cfg.consts.opRead f) = true)
    (hr : s.req.toNat + s.cfg.consts.tagOff + 2 ≤ s.cfg.cpMemSize) (ht : readTarget f s = none) :
    exec (.readReq f) s = .next (reject (readError (tagLatched f s)) (tagLatched f s)) := by
  rw [readTarget, if_pos hl] at ht
  rw [exec_readReq_tagInside hl hr, readByTag_rejects ht]

/-- A READ with a target transfers from it (R174-R186). -/
theorem exec_readReq_transfers (hl : lengthOk s.cfg.consts (ControlBlock.ofFields s.cfg.consts.opRead f) = true)
    (hr : s.req.toNat + s.cfg.consts.tagOff + 2 ≤ s.cfg.cpMemSize) {bank off : Nat} (ht : readTarget f s = some (bank, off)) :
    exec (.readReq f) s = .next (transferRecord bank off (tagLatched f s)) := by
  rw [readTarget, if_pos hl] at ht
  rw [exec_readReq_tagInside hl hr, readByTag_transfers ht]

/-- The inversion of READ: it transfers from its target, it rejects, or its tag bytes are out of range; u is its state before that,
with only latches and trace changed. -/
theorem exec_readReq_cases (h : exec (.readReq f) s = .next t) :
    (∃ bank off, readTarget f s = some (bank, off) ∧ t = transferRecord bank off (tagLatched f s))
    ∨ (∃ e u, t = reject e u ∧ u = { s with cb := u.cb, tag := u.tag, trace := u.trace })
    ∨ t = raiseFault .cpRange (latchRequest s.cfg.consts.opRead f s) := by
  cases hl : lengthOk s.cfg.consts (ControlBlock.ofFields s.cfg.consts.opRead f) with
  | false =>
    rw [exec_readReq_badLength hl] at h
    cases h; exact .inr (.inl ⟨_, _, rfl, rfl⟩)
  | true =>
    rcases Nat.lt_or_ge s.cfg.cpMemSize (s.req.toNat + s.cfg.consts.tagOff + 2) with hr | hr
    · rw [exec_readReq_tagOutside hl hr] at h
      cases h; exact .inr (.inr rfl)
    · cases ht : readTarget f s with
      | none =>
        rw [exec_readReq_rejects hl hr ht] at h
        cases h; exact .inr (.inl ⟨_, _, rfl, rfl⟩)
      | some target =>
        rw [exec_readReq_transfers hl hr ht] at h
        cases h; exact .inl ⟨_, _, rfl, rfl⟩

/-! ## READ's frame -/

/-- A write-back changes no byte outside the block at REQ (41_storage_service.md R158). -/
theorem writeBack_read_outside {a : Nat} (ha : a < s.req.toNat ∨ s.req.toNat + 10 ≤ a) :
    (writeBack s).mem.read a = s.mem.read a :=
  writeBack_elim (P := fun u => u.mem.read a = s.mem.read a) (fun _ => Memory.read_writeBytes_outside (by simpa using ha) _)
    fun _ => rfl

theorem reject_read_outside {e : Byte} {a : Nat} (ha : a < s.req.toNat ∨ s.req.toNat + 10 ≤ a) :
    (reject e s).mem.read a = s.mem.read a :=
  writeBack_read_outside (s := flag e s) ha

theorem reject_bankSel (e : Byte) : (reject e s).bankSel = s.bankSel :=
  writeBack_elim (P := fun u => u.bankSel = s.bankSel) (fun _ => rfl) fun _ => rfl

/-- A transfer changes no byte outside the buffer and the block (42_storage_read.md R182, R185). -/
theorem transferRecord_read_outside {bank off a : Nat} (ha : a < s.req.toNat ∨ s.req.toNat + 10 ≤ a)
    (hbuf : a < s.cb.buf.toNat ∨ s.cb.buf.toNat + s.cfg.consts.recSize ≤ a) :
    (transferRecord bank off s).mem.read a = s.mem.read a := by
  unfold transferRecord romRead
  refine memWrite_elim (P := fun u => u.mem.read a = s.mem.read a) (fun _ => ?_) fun _ => rfl
  rw [writeBack_read_outside (by simpa [switchBank] using ha)]
  exact Memory.read_writeBytes_outside (by simpa [switchBank] using hbuf) _

/-- Settles O49: only a transfer switches the bank and writes the buffer, and only the block is written beside it. -/
theorem readFrame : Obligations.ReadFrame := by
  intro f s t h
  obtain ⟨t', ht', hend⟩ := exec_request_end (i := .readReq f) rfl s
  cases ht'.symm.trans h
  refine ⟨hend.serviceKeeps, ?_⟩
  rcases exec_readReq_cases h with ⟨bank, off, htarget, rfl⟩ | ⟨e, u, rfl, hu⟩ | rfl
  · exact ⟨fun a ha hbuf => transferRecord_read_outside (s := tagLatched f s) ha hbuf, by simp [htarget]⟩
  · have hmem a (ha : a < s.req.toNat ∨ s.req.toNat + 10 ≤ a) : (reject e u).mem.read a = s.mem.read a := by
      rw [hu]; exact reject_read_outside ha
    have hbank : (reject e u).bankSel = s.bankSel := by rw [hu]; exact reject_bankSel e
    exact ⟨fun a ha _ => hmem a ha, fun _ => ⟨hbank, hmem⟩⟩
  · exact ⟨fun _ _ _ => rfl, fun _ => ⟨rfl, fun _ _ => rfl⟩⟩

/-! ## READ and the bank selected before it -/

/-- A write-back does not look at the bank. -/
theorem writeBack_setBankSel (b : Nat) : writeBack (s.setBankSel b) = (writeBack s).setBankSel b := by
  rcases Nat.lt_or_ge s.cfg.cpMemSize (s.req.toNat + 10) with hr | hr
  · rw [writeBack_outside hr, writeBack_outside (s := s.setBankSel b) hr]; rfl
  · rw [writeBack_inside hr, writeBack_inside (s := s.setBankSel b) hr]; rfl

theorem reject_setBankSel (e : Byte) (b : Nat) : reject e (s.setBankSel b) = (reject e s).setBankSel b :=
  writeBack_setBankSel (s := flag e s) b

/-- A transfer selects its own bank before it reads (42_storage_read.md R180). -/
theorem transferRecord_setBankSel (bank off b : Nat) :
    transferRecord bank off (s.setBankSel b) = transferRecord bank off s := rfl

/-- Two READs that differ in the bank selected before end alike, or, without a completed transfer, still differ in it alone. -/
theorem exec_readReq_setBankSel (f : RequestFields) (s : State) (b : Nat) : ∃ t, exec (.readReq f) s = .next t
    ∧ (exec (.readReq f) (s.setBankSel b) = .next t
      ∨ exec (.readReq f) (s.setBankSel b) = .next (t.setBankSel b) ∧ (readTarget f s ≠ none → t.seq ≠ .running)) := by
  cases hl : lengthOk s.cfg.consts (ControlBlock.ofFields s.cfg.consts.opRead f) with
  | false =>
    have hnone : readTarget f s = none := by simp [readTarget, hl]
    refine ⟨_, exec_readReq_badLength hl, .inr ⟨?_, absurd hnone⟩⟩
    rw [exec_readReq_badLength (s := s.setBankSel b) hl, ← reject_setBankSel]; rfl
  | true =>
    rcases Nat.lt_or_ge s.cfg.cpMemSize (s.req.toNat + s.cfg.consts.tagOff + 2) with hr | hr
    · exact ⟨_, exec_readReq_tagOutside hl hr, .inr ⟨exec_readReq_tagOutside (s := s.setBankSel b) hl hr, fun _ => nofun⟩⟩
    · cases ht : readTarget f s with
      | none =>
        refine ⟨_, exec_readReq_rejects hl hr ht, .inr ⟨?_, absurd rfl⟩⟩
        rw [exec_readReq_rejects (s := s.setBankSel b) hl hr ht, ← reject_setBankSel]; rfl
      | some target =>
        refine ⟨_, exec_readReq_transfers hl hr ht, .inl ?_⟩
        rw [exec_readReq_transfers (s := s.setBankSel b) hl hr ht]
        exact congrArg Host.Outcome.next (transferRecord_setBankSel (s := tagLatched f s) _ _ b)

/-- Settles O50: a READ's tests do not look at the bank, what it does without a transfer leaves it, and a transfer selects
its own. -/
theorem readIgnoresOldBank : Obligations.ReadIgnoresOldBank := by
  intro f s b
  obtain ⟨t, ht, ht' | ⟨ht', hseq⟩⟩ := exec_readReq_setBankSel f s b
  · exact ⟨t, t, ht, ht', rfl, rfl, rfl, rfl, rfl, rfl, fun _ _ => rfl⟩
  · exact ⟨t, t.setBankSel b, ht, ht', rfl, rfl, rfl, rfl, rfl, rfl, fun htarget hrun => absurd hrun (hseq htarget)⟩

end Sys2Proof.Machine
end

section
/-! PROOFS of the statements about memory: the handler's accesses are those of 20_memory.md R51, only the key is written while the
co-processor runs (R63), and the bank stays inside the files (R62). -/

namespace Sys2Proof.Machine

variable {P : Event → Prop} {s t u : State}

/-! ## What a step adds to the trace -/

/-- t's trace is s's with transactions added, each of which P allows. -/
def TraceAdds (P : Event → Prop) (s t : State) : Prop := ∃ es, t.trace = s.trace ++ es ∧ ∀ e ∈ es, P e

theorem TraceAdds.of_trace_eq (h : t.trace = s.trace) : TraceAdds P s t := ⟨[], by simp [h], by simp⟩

/-- Transactions made before those of the rest of the step. -/
theorem TraceAdds.after (h : TraceAdds P u t) {es : List Event} (hu : u.trace = s.trace ++ es) (hes : ∀ e ∈ es, P e) :
    TraceAdds P s t := by
  obtain ⟨fs, ht, hfs⟩ := h
  exact ⟨es ++ fs, by rw [ht, hu, List.append_assoc], fun e he => (List.mem_append.1 he).elim (hes e) (hfs e)⟩

/-- Any other list by which the trace has grown has the same transactions. -/
theorem TraceAdds.forall_mem (h : TraceAdds P s t) {es : List Event} (ht : t.trace = s.trace ++ es) : ∀ e ∈ es, P e := by
  obtain ⟨fs, hfs, hP⟩ := h
  rwa [List.append_cancel_left (ht.symm.trans hfs)]

/-! ## The storage service's transactions -/

/-- P allows the transactions of a write-back: ten bytes at REQ, then CpContinue (41_storage_service.md R158). -/
def AllowsWriteBack (P : Event → Prop) (s : State) : Prop :=
  (∀ bytes, bytes.length = 10 → P (.memWrite s.req.toNat bytes)) ∧ P .cpContinue

theorem writeBack_traceAdds (hP : AllowsWriteBack P s) : TraceAdds P s (writeBack s) := by
  obtain ⟨hwrite, hcontinue⟩ := hP
  refine writeBack_elim (P := TraceAdds P s) (fun _ => ⟨[.memWrite _ _, .cpContinue], rfl, ?_⟩) fun _ => .of_trace_eq rfl
  simpa using ⟨hwrite s.cb.bytes rfl, hcontinue⟩

theorem reject_traceAdds (e : Byte) (hP : AllowsWriteBack P s) : TraceAdds P s (reject e s) :=
  writeBack_traceAdds (s := flag e s) hP

/-- A transfer switches the bank, reads the record, writes it to the buffer and writes the block back (42_storage_read.md R186). -/
theorem transferRecord_traceAdds {bank off : Nat} (hP : AllowsWriteBack P s) (hswitch : P (.switchBank bank))
    (hread : P (.romRead off s.cfg.consts.recSize))
    (hwrite : P (.memWrite s.cb.buf.toNat (romBytes s.cfg bank off s.cfg.consts.recSize))) :
    TraceAdds P s (transferRecord bank off s) := by
  unfold transferRecord romRead
  refine TraceAdds.after (u := (switchBank bank s).record (.romRead off s.cfg.consts.recSize))
    (es := [.switchBank bank, .romRead off s.cfg.consts.recSize]) ?_ (by simp [switchBank]) (by simp [hswitch, hread])
  refine memWrite_elim (P := TraceAdds P _) (fun _ => ?_) fun _ => .of_trace_eq rfl
  refine TraceAdds.after (es := [.memWrite s.cb.buf.toNat (romBytes s.cfg bank off s.cfg.consts.recSize)])
    (writeBack_traceAdds ?_) rfl (by simpa using hwrite)
  exact hP

/-- READ reads the tag only at a good length, and transfers only from its target (R170). -/
theorem exec_readReq_traceAdds {f : RequestFields} (h : exec (.readReq f) s = .next t) (hP : AllowsWriteBack P s)
    (htag : lengthOk s.cfg.consts (ControlBlock.ofFields s.cfg.consts.opRead f) = true →
      P (.memRead (s.req.toNat + s.cfg.consts.tagOff) (s.mem.readBytes (s.req.toNat + s.cfg.consts.tagOff) 2)))
    (htransfer : ∀ bank off, readTarget f s = some (bank, off) → P (.switchBank bank) ∧ P (.romRead off s.cfg.consts.recSize)
      ∧ P (.memWrite f.buf.toNat (romBytes s.cfg bank off s.cfg.consts.recSize))) : TraceAdds P s t := by
  cases hl : lengthOk s.cfg.consts (ControlBlock.ofFields s.cfg.consts.opRead f) with
  | false =>
    cases (exec_readReq_badLength hl).symm.trans h
    exact reject_traceAdds (s := latchRequest s.cfg.consts.opRead f s) _ hP
  | true =>
    have htagged (ht : TraceAdds P (tagLatched f s) t) : TraceAdds P s t := ht.after rfl (by simpa using htag hl)
    rcases Nat.lt_or_ge s.cfg.cpMemSize (s.req.toNat + s.cfg.consts.tagOff + 2) with hr | hr
    · cases (exec_readReq_tagOutside hl hr).symm.trans h
      exact .of_trace_eq rfl
    · cases htarget : readTarget f s with
      | none =>
        cases (exec_readReq_rejects hl hr htarget).symm.trans h
        exact htagged (reject_traceAdds _ hP)
      | some target =>
        obtain ⟨bank, off⟩ := target
        cases (exec_readReq_transfers hl hr htarget).symm.trans h
        obtain ⟨hswitch, hread, hwrite⟩ := htransfer bank off htarget
        exact htagged (transferRecord_traceAdds (s := tagLatched f s) hP hswitch hread hwrite)

theorem checkLength_traceAdds {k : State → State} (hP : AllowsWriteBack P s) (hk : TraceAdds P s (k s)) :
    TraceAdds P s (checkLength s k) := by
  unfold checkLength
  split
  · exact hk
  · exact reject_traceAdds _ hP

/-- OPEN writes its block back, whatever its length and its error field (41_storage_service.md R154, R156). -/
theorem exec_openReq_traceAdds {f : RequestFields} (h : exec (.openReq f) s = .next t) (hP : AllowsWriteBack P s) :
    TraceAdds P s t := by
  cases h
  refine checkLength_traceAdds (s := latchRequest s.cfg.consts.opOpen f s) hP ?_
  split
  · exact writeBack_traceAdds hP
  · exact reject_traceAdds _ hP

/-- INVALID writes its block back, whatever its length (R154, R157). -/
theorem exec_invalidReq_traceAdds {opc : Byte} {f : RequestFields} (h : exec (.invalidReq opc f) s = .next t)
    (hP : AllowsWriteBack P s) : TraceAdds P s t := by
  cases h
  exact checkLength_traceAdds (s := latchRequest opc f s) hP (reject_traceAdds _ hP)

/-- CLOSE only continues the co-processor (R153). -/
theorem exec_closeReq_traceAdds {f : RequestFields} (h : exec (.closeReq f) s = .next t) (hP : P .cpContinue) :
    TraceAdds P s t := by
  cases h
  exact ⟨[.cpContinue], rfl, by simpa using hP⟩

/-! ## STORAGE's transactions -/

/-- Ten bytes at an address decode to the request of the block there (30_encoding.md R84, R94). -/
theorem decode_readBytes (k : Consts) (m : Memory) (a : Nat) :
    decode k .control (m.readBytes a 10) = .ok ((controlBlockAt m a).request k) := by
  simp [decode, ControlBlock.ofBytes_readBytes, controlBlockAt]

/-- s after STORAGE has taken the request address and read the block there (41_storage_service.md R151). -/
def blockFetched (request : Word) (s : State) : State :=
  (s.setReq request).record (.memRead request.toNat (s.mem.readBytes request.toNat 10))

/-- STORAGE goes on with a fault or with exec of the request at the request address (40_supervisor.md R125). -/
theorem execStorage_cases {request computed expected : Word} (hk : s.cfg.consts.cbLen = 10)
    (h : execStorage request computed expected s = .next t) :
    t = raiseFault .cpRange (s.setReq request)
    ∨ exec ((controlBlockAt s.mem request.toNat).request s.cfg.consts) (blockFetched request s) = .next t := by
  rw [execStorage, hk] at h
  rcases Nat.lt_or_ge s.cfg.cpMemSize (request.toNat + 10) with hr | hr
  · rw [fetchBytes_outside (s := s.setReq request) hr] at h
    cases h; exact .inl rfl
  · rw [fetchBytes_inside (s := s.setReq request) hr, State.setReq_mem, decode_readBytes] at h
    rw [← runRequest_eq_exec (ControlBlock.request_format _ _)]
    exact .inr h

/-- The table lists the block's write-back for every request but CLOSE (20_memory.md R51). -/
theorem allowsWriteBack_blockFetched (hs : s.seq = .dispatchStorage)
    (hopc : (controlBlockAt s.mem s.sb.request.toNat).opc ≠ 0x01) :
    AllowsWriteBack (accessAllowed s) (blockFetched s.sb.request s) :=
  ⟨fun _ hlen => .inr (.inr (.inr (.inl ⟨hs, rfl, hlen, hopc⟩))), hs⟩

/-- The row "READ, in bounds" of R51 lists the transfer of the requested READ. -/
theorem accessAllowed_of_requestedRead {bank off : Nat} (hs : s.seq = .dispatchStorage)
    (h : requestedRead s = some (bank, off)) :
    accessAllowed s (.switchBank bank) ∧ accessAllowed s (.romRead off 128)
    ∧ accessAllowed s (.memWrite (controlBlockAt s.mem s.sb.request.toNat).buf.toNat (romBytes s.cfg bank off 128)) :=
  ⟨⟨hs, off, h⟩, ⟨hs, rfl, bank, h⟩, .inr (.inr (.inr (.inr ⟨hs, rfl, bank, off, h, rfl⟩)))⟩

/-- Under the document's constants the request at the request address makes only accesses of R51. -/
theorem exec_request_accesses (hs : s.seq = .dispatchStorage) (hd : s.documented)
    (h : exec ((controlBlockAt s.mem s.sb.request.toNat).request s.cfg.consts) (blockFetched s.sb.request s) = .next t) :
    TraceAdds (accessAllowed s) (blockFetched s.sb.request s) t := by
  have hP := allowsWriteBack_blockFetched hs
  have hk : s.cfg.consts = .document := hd
  rw [hk] at h
  by_cases hclose : (controlBlockAt s.mem s.sb.request.toNat).opc = 0x01
  · rw [ControlBlock.request_close hclose] at h
    exact exec_closeReq_traceAdds h hs
  by_cases hread : (controlBlockAt s.mem s.sb.request.toNat).opc = 0x02
  · rw [ControlBlock.request_read hclose hread] at h
    refine exec_readReq_traceAdds h (hP hclose) (fun hl => ?_) fun bank off htarget => ?_
    · simp only [blockFetched, State.record_cfg, State.setReq_cfg, hk] at hl ⊢
      refine .inr (.inr (.inr ⟨hs, rfl, Memory.readBytes_length _ _ _, hread, ?_⟩))
      exact BitVec.eq_of_toNat_eq (beq_iff_eq.1 hl)
    · have hsize : (blockFetched s.sb.request s).cfg.consts.recSize = 128 := congrArg Consts.recSize hk
      rw [hsize]
      refine accessAllowed_of_requestedRead hs ?_
      rw [requestedRead, hk]
      exact (if_pos hread).trans htarget
  by_cases hopen : (controlBlockAt s.mem s.sb.request.toNat).opc = 0x00
  · rw [ControlBlock.request_open hclose hread hopen] at h
    exact exec_openReq_traceAdds h (hP hclose)
  · rw [ControlBlock.request_invalid hclose hread hopen] at h
    exact exec_invalidReq_traceAdds h (hP hclose)

/-- DISPATCH_STORAGE reads the block and then serves its request (R151). -/
theorem exec_latchedStorage_accesses (hs : s.seq = .dispatchStorage) (hd : s.documented)
    (h : exec (latchedStorage s) s = .next t) : TraceAdds (accessAllowed s) s t := by
  have hfetch bytes (hlen : bytes.length = 10) : accessAllowed s (.memRead s.sb.request.toNat bytes) :=
    .inr (.inr (.inl ⟨hs, rfl, hlen⟩))
  rcases execStorage_cases (computed := s.sb.computed) (expected := s.sb.expected) (congrArg Consts.cbLen hd) h with rfl | hexec
  · exact .of_trace_eq rfl
  · exact (exec_request_accesses hs hd hexec).after rfl (by simpa using hfetch _ (Memory.readBytes_length _ _ _))

/-! ## The accesses of each handler step -/

/-- RUNNING forwards a key, polls busy, or both, in the configured order (40_supervisor.md R117, R118). -/
theorem stepRunning_accesses (hs : s.seq = .running) (h : stepRunning s = .next t) : TraceAdds (accessAllowed s) s t := by
  have hpoll : accessAllowed s (.cpBusy s.cpBusy) := ⟨hs, rfl⟩
  have hkey : accessAllowed s (.pollKey (nextKey s)) := ⟨hs, rfl⟩
  have hwrite : accessAllowed s (.memWrite s.cfg.inputAddr [nextKey s]) := .inr (.inr (.inl ⟨hs, rfl, rfl⟩))
  cases h
  split
  · unfold pollBusy
    beta_reduce
    refine TraceAdds.after (u := s.record (.cpBusy s.cpBusy)) ?_ rfl (by simpa using hpoll)
    split
    · exact forwardKey_elim (P := TraceAdds _ _)
        ⟨[.pollKey (nextKey s), .memWrite s.cfg.inputAddr [nextKey s]], rfl, by simpa using ⟨hkey, hwrite⟩⟩
        ⟨[.pollKey (nextKey s)], rfl, by simpa using hkey⟩
    · exact .of_trace_eq rfl
  · refine forwardKey_elim (P := TraceAdds _ s) ?_ ⟨[.pollKey _], rfl, by simpa using hkey⟩
    unfold pollBusy
    beta_reduce
    refine ⟨[.pollKey _, .memWrite _ _, .cpBusy _], ?_, by simpa using ⟨hkey, hwrite, hpoll⟩⟩
    split <;> simp

/-- Every handler step makes only accesses of its sequencer state; the service's constants must be the document's. -/
theorem handlerStep_accesses (hd : s.seq = .dispatchStorage → s.documented) (h : handlerStep s = .next t) :
    TraceAdds (accessAllowed s) s t := by
  unfold handlerStep at h
  split at h <;> rename_i hs
  · rcases stepProbeLoad_cases h with rfl | rfl
    · exact .of_trace_eq rfl
    · exact ⟨[.memWrite s.cfg.progStart s.cfg.probePayload, .cpStart s.cfg.progStart], by simp [cpStart_eq],
        by simp [accessAllowed, hs]⟩
  · rcases stepProbeCheck_cases h with rfl | ⟨-, -, rfl⟩ | ⟨-, rfl⟩
    · exact .of_trace_eq rfl
    · exact ⟨[.memRead _ _], rfl, by simp [accessAllowed, hs]⟩
    · exact ⟨[.memRead s.cfg.progStart (s.mem.readBytes s.cfg.progStart 2), .emit .msgUnsupported, .emit .indFailure],
        by simp [enterHaltFailure_eq, emit], by simp [accessAllowed, hs]⟩
  · rcases stepUpload_cases h with rfl | rfl
    · exact .of_trace_eq rfl
    · exact ⟨[.memWrite s.cfg.progStart s.cfg.updatePayload, .cpStart s.cfg.progStart], by simp [cpStart_eq],
        by simp [accessAllowed, hs]⟩
  · exact stepRunning_accesses hs h
  · rcases stepCheckResult_cases h with rfl | ⟨b, -, rfl, -⟩
    · exact .of_trace_eq rfl
    · exact ⟨[.memRead _ _], rfl, by simp [accessAllowed, hs]⟩
  · cases h
    split
    · exact ⟨[.emit .msgChecksumMismatch, .emit .indFailure], by simp [enterHaltFailure_eq, emit], by simp [accessAllowed, hs]⟩
    · exact ⟨[.emit .indFailure], rfl, by simp [accessAllowed, hs]⟩
  · exact exec_latchedStorage_accesses hs (hd hs) h
  · cases h
    exact ⟨[.emit .indSuccess], rfl, by simp [accessAllowed, hs]⟩
  · cases h; exact .of_trace_eq rfl
  · cases h; exact .of_trace_eq rfl
  · cases h; exact .of_trace_eq rfl

/-- The co-processor's move adds nothing to the trace (log 1). -/
theorem step_accesses (hd : s.seq = .dispatchStorage → s.documented) (h : step s = .next t) :
    TraceAdds (accessAllowed (cpTurn s)) s t := by
  obtain ⟨hcfg, hseq, -, -, -, -, -, -, -, -, -, -, -, htrace⟩ := cpTurn_keeps s
  have hd' : (cpTurn s).seq = .dispatchStorage → (cpTurn s).documented := by simpa [State.documented, hcfg, hseq] using hd
  exact (handlerStep_accesses hd' h).after (es := []) (by simp [htrace]) (by simp)

/-- Settles O14: no step needs the document's constants but the service's, whose accesses go by the requested block. -/
theorem accessesOfTable : Obligations.AccessesOfTable := fun _ _ hd h => step_accesses (fun _ => hd) h

/-! ## While the co-processor runs -/

/-- Where the invariant lets the co-processor run, the table lists no write but the key's and no read but the probe's
(20_memory.md R63). -/
theorem accessAllowed_of_not_halted (hs : s.seq.coprocessorHalted = false) :
    (∀ a bytes, accessAllowed s (.memWrite a bytes) → s.seq = .running ∧ a = s.cfg.inputAddr ∧ bytes.length = 1)
    ∧ (∀ a bytes, accessAllowed s (.memRead a bytes) → s.seq = .probeCheck ∧ a = s.cfg.progStart ∧ bytes.length = 2) := by
  simp only [SeqState.coprocessorHalted, Bool.or_eq_false_iff, beq_eq_false_iff_ne] at hs
  obtain ⟨⟨⟨⟨⟨⟨hload, hupload⟩, hcheck⟩, -⟩, hstorage⟩, -⟩, -⟩ := hs
  simp [accessAllowed, hload, hupload, hcheck, hstorage]

/-- A co-processor that runs after its move ran before it (60_exceptions.md R214). -/
theorem cpBusy_of_cpTurn_cpBusy (h : (cpTurn s).cpBusy = true) : s.cpBusy = true := by
  by_contra hb
  rw [cpTurn_halted (Bool.eq_false_of_not_eq_true hb)] at h
  exact hb h

/-- Settles O27: the invariant rules out the states with a halted co-processor, and O14's accesses of the others are these. -/
theorem onlyKeyWritesWhileRunning : Obligations.OnlyKeyWritesWhileRunning := by
  intro s t es hinv h hbusy htrace
  have hrunning : s.seq.coprocessorHalted = false := by
    by_contra hh
    simpa [cpBusy_of_cpTurn_cpBusy hbusy] using hinv.halted (Bool.eq_true_of_not_eq_false hh)
  have hd (hs : s.seq = .dispatchStorage) : s.documented := by simp [hs, SeqState.coprocessorHalted] at hrunning
  have hmem := (step_accesses hd h).forall_mem htrace
  obtain ⟨hcfg, hseq, -⟩ := cpTurn_keeps s
  rw [← hseq] at hrunning
  obtain ⟨hwrites, hreads⟩ := accessAllowed_of_not_halted hrunning
  rw [hcfg, hseq] at hwrites hreads
  exact ⟨fun a bytes he => hwrites a bytes (hmem _ he), fun a bytes he => hreads a bytes (hmem _ he)⟩

/-! ## The selected bank -/

/-- A translated bank is reduced mod 2^BANK_W (42_storage_read.md R175). -/
theorem translateRecord_lt_two_pow {c : Config} {file : VirtualFile} {n bank off : Nat}
    (h : translateRecord c file n = some (bank, off)) : bank < 2 ^ c.bankW := by
  rw [translateRecord] at h
  split at h <;> cases h
  exact Nat.mod_lt _ (Nat.two_pow_pos c.bankW)

/-- Settles O55: the bounds check gives the file's bounds, the reduction mod 2^BANK_W the bank-number space. -/
theorem banksInsideFiles : Obligations.BanksInsideFiles := by
  intro c file n bank off hw h
  obtain ⟨hlow, hhigh⟩ := translateRecord_bank hw h
  exact ⟨hlow, hhigh, translateRecord_lt_two_pow h⟩

end Sys2Proof.Machine
end

section
/-! PROOFS of the statements about the encoding: the decoder and the encoder are inverse to each other (30_encoding.md R80-R94),
the status block's classes (R82, R83), and the error flags (R96-R98). -/

namespace Sys2Proof

variable {k : Consts} {bs : List Byte}

/-! ## Blocks and their bytes -/

/-- Ten bytes are the bytes of some control block (R84). -/
theorem ControlBlock.exists_bytes_eq (h : bs.length = 10) : ∃ b : ControlBlock, b.bytes = bs := by
  match bs, h with
  | [c0, c1, c2, c3, c4, c5, c6, c7, c8, c9], _ =>
    exact ⟨⟨⟨c1, be16 c2 c3, c4, c5, be16 c6 c7, c8, c9⟩, c0⟩, ControlBlock.bytes_of_ofBytes rfl⟩

@[simp] theorem ControlBlock.ofFields_err (opc : Byte) (f : RequestFields) : (ControlBlock.ofFields opc f).err = f.err := rfl

@[simp] theorem decode_controlBytes (k : Consts) (b : ControlBlock) : decode k .control b.bytes = .ok (b.request k) := by
  rw [decode, ControlBlock.ofBytes_bytes]

@[simp] theorem decode_statusBytes (k : Consts) (b : StatusBlock) : decode k .status b.bytes = .ok b.dispatch := by
  rw [decode, StatusBlock.ofBytes_bytes]

/-- What decodes as a control block is the request of one with these bytes. -/
theorem exists_of_decode_control {i : Instr} (h : decode k .control bs = .ok i) :
    ∃ b : ControlBlock, b.bytes = bs ∧ b.request k = i := by
  rw [decode] at h
  split at h <;> cases h
  rename_i b hb
  exact ⟨b, ControlBlock.bytes_of_ofBytes hb, rfl⟩

/-- What decodes as a status block is the class of one with these bytes. -/
theorem exists_of_decode_status {i : Instr} (h : decode k .status bs = .ok i) :
    ∃ b : StatusBlock, b.bytes = bs ∧ b.dispatch = i := by
  rw [decode] at h
  split at h <;> cases h
  rename_i b hb
  exact ⟨b, StatusBlock.bytes_of_ofBytes hb, rfl⟩

/-! ## The request of a control block, the class of a status block -/

theorem Consts.opcodesDistinct_iff (k : Consts) :
    k.opcodesDistinct = true ↔ k.opOpen ≠ k.opClose ∧ k.opOpen ≠ k.opRead ∧ k.opClose ≠ k.opRead := by
  simp [Consts.opcodesDistinct, and_assoc]

theorem Instr.wf_invalidReq_iff (k : Consts) (opc : Byte) (f : RequestFields) :
    (Instr.invalidReq opc f).wf k = true ↔ opc ≠ k.opOpen ∧ opc ≠ k.opClose ∧ opc ≠ k.opRead := by
  simp [Instr.wf, and_assoc]

/-- A control block's request is well formed and has the block's bytes (R84, R94). -/
theorem ControlBlock.request_wf_encode (k : Consts) (b : ControlBlock) :
    (b.request k).wf k = true ∧ encode k (b.request k) = b.bytes := by
  by_cases hclose : b.opc = k.opClose
  · rw [ControlBlock.request_close hclose]
    exact ⟨rfl, by rw [encode, ← hclose]; rfl⟩
  by_cases hread : b.opc = k.opRead
  · rw [ControlBlock.request_read hclose hread]
    exact ⟨rfl, by rw [encode, ← hread]; rfl⟩
  by_cases hopen : b.opc = k.opOpen
  · rw [ControlBlock.request_open hclose hread hopen]
    exact ⟨rfl, by rw [encode, ← hopen]; rfl⟩
  · rw [ControlBlock.request_invalid hclose hread hopen]
    exact ⟨(Instr.wf_invalidReq_iff k _ _).2 ⟨hopen, hclose, hread⟩, rfl⟩

/-- A status block's class is well formed and has the block's bytes (R80, R82). -/
theorem StatusBlock.dispatch_wf_encode (k : Consts) (b : StatusBlock) :
    b.dispatch.wf k = true ∧ encode k b.dispatch = b.bytes := by
  obtain ⟨result, request, computed, expected⟩ := b
  by_cases hresult : result = 0
  · subst hresult
    by_cases hrequest : request = 0
    · subst hrequest
      rw [StatusBlock.dispatch_success rfl rfl]
      exact ⟨rfl, rfl⟩
    · rw [StatusBlock.dispatch_storage rfl hrequest]
      exact ⟨bne_iff_ne.2 hrequest, rfl⟩
  · rw [StatusBlock.dispatch_error hresult]
    exact ⟨bne_iff_ne.2 hresult, rfl⟩

theorem StatusBlock.dispatch_format (b : StatusBlock) : b.dispatch.format = .status := by
  unfold StatusBlock.dispatch
  split_ifs <;> rfl

/-! ## Decoding and encoding -/

theorem decode_bytes_of_request {b : ControlBlock} {i : Instr} (h : b.request k = i) : decode k .control b.bytes = .ok i := by
  rw [decode_controlBytes, h]

theorem decode_bytes_of_dispatch {b : StatusBlock} {i : Instr} (h : b.dispatch = i) : decode k .status b.bytes = .ok i := by
  rw [decode_statusBytes, h]

/-- Settles O2: an encoding is the bytes of a block, whose opcode or words put it in the instruction's class again. -/
theorem decodeAfterEncode : Obligations.DecodeAfterEncode := by
  intro k i hk hi
  obtain ⟨hoc, hor, hcr⟩ := k.opcodesDistinct_iff.1 hk
  cases i with
  | openReq f => exact decode_bytes_of_request (ControlBlock.request_open (b := .ofFields k.opOpen f) hoc hor rfl)
  | closeReq f => exact decode_bytes_of_request (ControlBlock.request_close (b := .ofFields k.opClose f) rfl)
  | readReq f => exact decode_bytes_of_request (ControlBlock.request_read (b := .ofFields k.opRead f) hcr.symm rfl)
  | invalidReq opc f =>
    obtain ⟨hopen, hclose, hread⟩ := (Instr.wf_invalidReq_iff k opc f).1 hi
    exact decode_bytes_of_request (ControlBlock.request_invalid (b := .ofFields opc f) hclose hread hopen)
  | success c e => exact decode_bytes_of_dispatch (StatusBlock.dispatch_success (b := ⟨0, 0, c, e⟩) rfl rfl)
  | storage r c e => exact decode_bytes_of_dispatch (StatusBlock.dispatch_storage (b := ⟨0, r, c, e⟩) rfl (bne_iff_ne.1 hi))
  | error x r c e => exact decode_bytes_of_dispatch (StatusBlock.dispatch_error (b := ⟨x, r, c, e⟩) (bne_iff_ne.1 hi))

/-- Settles O3: whatever decodes is the request or the class of a block with these bytes. -/
theorem encodeAfterDecode : Obligations.EncodeAfterDecode := by
  intro k fmt bs i h
  cases fmt with
  | control =>
    obtain ⟨b, rfl, rfl⟩ := exists_of_decode_control h
    exact ⟨Machine.ControlBlock.request_format k b, b.request_wf_encode k⟩
  | status =>
    obtain ⟨b, rfl, rfl⟩ := exists_of_decode_status h
    exact ⟨b.dispatch_format, b.dispatch_wf_encode k⟩

/-- Settles O4: ten bytes are a control block's, their first is its opcode, and the tests are the decoder's. -/
theorem opcodeDecodeTotal : Obligations.OpcodeDecodeTotal := by
  intro bs h
  obtain ⟨b, rfl⟩ := ControlBlock.exists_bytes_eq h
  have hopc : b.bytes[0]? = some b.opc := rfl
  simp only [decode_controlBytes, hopc, Option.some.injEq, Option.getD_some]
  exact ⟨b.toRequestFields, rfl⟩

/-- Settles O1: each block's opcode or first words choose its class, and its fields are read in the layout's order. -/
theorem decodeOfWrittenOutBlocks : Obligations.DecodeOfWrittenOutBlocks :=
  ⟨rfl, rfl, rfl, rfl, rfl, rfl, rfl⟩

end Sys2Proof

namespace Sys2Proof.Machine

variable {s : State}

/-! ## The status block -/

/-- CHECK_RESULT with the block in range latches its four words and enters their class's state (40_supervisor.md R120). -/
theorem stepCheckResult_inside (hw : s.cfg.consts.sbWords = 4) (hr : s.cfg.statusAddr + 8 ≤ s.cfg.cpMemSize) :
    stepCheckResult s = .next (((s.record (.memRead s.cfg.statusAddr (s.mem.readBytes s.cfg.statusAddr 8))).setSb
      (statusBlockAt s.mem s.cfg.statusAddr)).setSeq (dispatchSeq (statusBlockAt s.mem s.cfg.statusAddr).dispatch)) := by
  rw [stepCheckResult, hw, fetchBytes_inside hr, StatusBlock.ofBytes_readBytes]
  rfl

/-- Settles O23: the eight bytes are four words, and the class of the block they make is the state entered. -/
theorem checkResultStep : Obligations.CheckResultStep := by
  intro s hs hb hw hr
  rw [step, cpTurn_halted hb, handlerStep, hs]
  exact (stepCheckResult_inside hw hr).trans (by rw [dispatchSeq_dispatch]; rfl)

/-- Settles O28: the message is emitted by the test of the checksums, the rest is the entry into HALT_FAILURE. -/
theorem errorCompletes : Obligations.ErrorCompletes := by
  intro result request computed expected s
  rw [exec, execError]
  by_cases h : computed = expected
  · simp [checksumMismatch, h, enterHaltFailure_eq]
  · simp [checksumMismatch, h, enterHaltFailure_eq, emit, State.record, State.setMsg]

/-! ## The error flags -/

@[simp] theorem writeBack_cb (s : State) : (writeBack s).cb = s.cb :=
  writeBack_elim (P := fun u => u.cb = s.cb) (fun _ => rfl) fun _ => rfl

/-- A rejection ORs its flag into the error field (R97). -/
@[simp] theorem reject_err (e : Byte) (s : State) : (reject e s).cb.err = s.cb.err ||| e := by
  rw [reject, writeBack_cb]; rfl

/-- A transfer, completed or stopped by its buffer's range, leaves the error field alone (42_storage_read.md R183, R184). -/
@[simp] theorem transferRecord_err (bank off : Nat) (s : State) : (transferRecord bank off s).cb.err = s.cb.err := by
  unfold transferRecord romRead
  refine memWrite_elim (P := fun u => u.cb.err = s.cb.err) (fun _ => ?_) fun _ => rfl
  rw [writeBack_cb]; rfl

/-- The error field after the length check: the flag of a bad length, or what follows (41_storage_service.md R154). -/
theorem checkLength_err (s : State) (g : State → State) :
    (checkLength s g).cb.err = if lengthOk s.cfg.consts s.cb then (g s).cb.err else s.cb.err ||| s.cfg.consts.errBadAttr := by
  rw [checkLength]
  split
  · rfl
  · exact reject_err _ _

/-- The error field after the record number's test (42_storage_read.md R179). -/
theorem readFromFile_err (file : VirtualFile) (s : State) : (readFromFile file s).cb.err =
    if targetBank s.cfg file s.cb.recNo.toNat ≥ nextBank s.cfg file ∨ targetBank s.cfg file s.cb.recNo.toNat < s.cfg.b0 then
      s.cb.err ||| s.cfg.consts.errEof
    else s.cb.err := by
  rw [readFromFile, translateRecord]
  split_ifs
  · exact reject_err _ _
  · exact transferRecord_err _ _ _

/-- The document's record size is one value of the length byte (30_encoding.md R87). -/
theorem lengthOk_document_iff (b : ControlBlock) : lengthOk .document b = true ↔ b.rlen = 0x80 := by
  rw [lengthOk, beq_iff_eq, ← BitVec.toNat_inj]; rfl

@[simp] theorem latchRequest_cfg (opc : Byte) (f : RequestFields) (s : State) : (latchRequest opc f s).cfg = s.cfg := rfl

@[simp] theorem latchRequest_cb (opc : Byte) (f : RequestFields) (s : State) :
    (latchRequest opc f s).cb = ControlBlock.ofFields opc f := rfl

variable (f : RequestFields)

/-- OPEN flags a bad length or a bad attribute byte (41_storage_service.md R154, R156). -/
theorem exec_openReq_err (hd : s.documented) : ∃ t, exec (.openReq f) s = .next t
    ∧ t.cb.err = if f.rlen ≠ 0x80 ∨ f.err ≠ s.cfg.openAttr then f.err ||| 0x40 else f.err := by
  refine ⟨_, rfl, ?_⟩
  have hk : s.cfg.consts = .document := hd
  rw [checkLength_err, latchRequest_cfg, latchRequest_cb, hk]
  by_cases hlen : f.rlen = 0x80
  · rw [if_pos ((lengthOk_document_iff _).2 hlen)]
    by_cases hattr : f.err = s.cfg.openAttr
    · rw [if_pos (by simpa [attrAccepted] using hattr), writeBack_cb, if_neg (by simp [hlen, hattr])]
      rfl
    · rw [if_neg (by simpa [attrAccepted] using hattr), reject_err, if_pos (.inr hattr)]
      rfl
  · rw [if_neg (mt (lengthOk_document_iff _).1 hlen), if_pos (.inl hlen)]
    rfl

/-- INVALID flags whatever its length (R154, R157). -/
theorem exec_invalidReq_err (hd : s.documented) (opc : Byte) : ∃ t, exec (.invalidReq opc f) s = .next t
    ∧ t.cb.err = f.err ||| 0x40 := by
  refine ⟨_, rfl, ?_⟩
  have hk : s.cfg.consts = .document := hd
  rw [checkLength_err, reject_err, ite_self, latchRequest_cfg, hk]
  rfl

theorem readByTag_of_noFile (h : resolveTag s.cfg s.tag = none) : readByTag s = reject s.cfg.consts.errBadName s := by
  rw [readByTag, h]

theorem readByTag_of_file {file : VirtualFile} (h : resolveTag s.cfg s.tag = some file) :
    readByTag s = readFromFile file s := by
  rw [readByTag, h]

theorem tagLatched_tag : (tagLatched f s).tag = tagAt s.mem (s.req.toNat + s.cfg.consts.tagOff) := rfl

@[simp] theorem tagLatched_cfg : (tagLatched f s).cfg = s.cfg := rfl

/-- READ flags a bad length, then an unknown tag, then a record outside its file; a tag out of range faults without a flag
(41_storage_service.md R161, 42_storage_read.md R171-R179). -/
theorem exec_readReq_err (hd : s.documented) : ∃ t, exec (.readReq f) s = .next t
    ∧ t.cb.err =
      if f.rlen ≠ 0x80 then f.err ||| 0x40
      else if s.cfg.cpMemSize < s.req.toNat + 21 then f.err
      else match resolveTag s.cfg (tagAt s.mem (s.req.toNat + 19)) with
        | none => f.err ||| 0xE0
        | some file =>
          if (f.recNo.toNat / 126 + firstBank s.cfg file) % 2 ^ s.cfg.bankW ≥ nextBank s.cfg file
              ∨ (f.recNo.toNat / 126 + firstBank s.cfg file) % 2 ^ s.cfg.bankW < s.cfg.b0 then f.err ||| 0xA0
          else f.err := by
  have hk : s.cfg.consts = .document := hd
  have hlength : lengthOk s.cfg.consts (ControlBlock.ofFields s.cfg.consts.opRead f) = true ↔ f.rlen = 0x80 := by
    rw [hk]; exact lengthOk_document_iff _
  by_cases hl : f.rlen ≠ 0x80
  · refine ⟨_, exec_readReq_badLength (Bool.eq_false_of_not_eq_true (mt hlength.1 hl)), ?_⟩
    rw [if_pos hl, reject_err, hk]
    rfl
  rw [if_neg hl]
  have hgood := hlength.2 (not_not.1 hl)
  have htagEnd : s.req.toNat + s.cfg.consts.tagOff + 2 = s.req.toNat + 21 := by rw [hk]; rfl
  by_cases hr : s.cfg.cpMemSize < s.req.toNat + 21
  · rw [if_pos hr]
    exact ⟨_, exec_readReq_tagOutside hgood (htagEnd ▸ hr), rfl⟩
  rw [if_neg hr]
  refine ⟨_, exec_readReq_tagInside hgood (htagEnd ▸ Nat.le_of_not_lt hr), ?_⟩
  have htag : tagAt s.mem (s.req.toNat + 19) = (tagLatched f s).tag := by rw [tagLatched_tag, hk]; rfl
  rw [htag]
  cases hfile : resolveTag s.cfg (tagLatched f s).tag with
  | none =>
    rw [readByTag_of_noFile hfile, reject_err, tagLatched_cfg, hk]
    rfl
  | some file =>
    rw [readByTag_of_file hfile, readFromFile_err, targetBank, tagLatched_cfg, hk]
    rfl

/-- Settles O39: CLOSE makes no test, and every test of another request that fails ends its service with that test's flag. -/
theorem atMostOneFlag : Obligations.AtMostOneFlag :=
  fun f _ hd => ⟨⟨_, rfl, rfl⟩, exec_openReq_err f hd, exec_invalidReq_err f hd, exec_readReq_err f hd⟩

end Sys2Proof.Machine
end

section
/-! PROOFS of the statements about the supervisor: where each sequencer state goes and when its step answers, the probe, the upload,
RUNNING, and the entry into a service and into the halting classes. -/

namespace Sys2Proof.Machine

variable {s t : State} {i : Instr}

/-! ## The step of each sequencer state, after the co-processor's move -/

@[simp] theorem cpTurn_cfg (s : State) : (cpTurn s).cfg = s.cfg := by
  obtain ⟨hcfg, -⟩ := cpTurn_keeps s
  exact hcfg

@[simp] theorem cpTurn_seq (s : State) : (cpTurn s).seq = s.seq := by
  obtain ⟨-, hseq, -⟩ := cpTurn_keeps s
  exact hseq

@[simp] theorem cpTurn_keyScript (s : State) : (cpTurn s).keyScript = s.keyScript := by
  obtain ⟨-, -, -, -, -, -, -, -, -, -, -, -, hkeys, -⟩ := cpTurn_keeps s
  exact hkeys

@[simp] theorem cpTurn_trace (s : State) : (cpTurn s).trace = s.trace := by
  obtain ⟨-, -, -, -, -, -, -, -, -, -, -, -, -, htrace⟩ := cpTurn_keeps s
  exact htrace

theorem step_probeLoad (hs : s.seq = .probeLoad) : step s = stepProbeLoad (cpTurn s) := by
  rw [step, handlerStep, cpTurn_seq, hs]

theorem step_probeCheck (hs : s.seq = .probeCheck) : step s = stepProbeCheck (cpTurn s) := by
  rw [step, handlerStep, cpTurn_seq, hs]

theorem step_upload (hs : s.seq = .upload) : step s = stepUpload (cpTurn s) := by
  rw [step, handlerStep, cpTurn_seq, hs]

theorem step_running (hs : s.seq = .running) : step s = stepRunning (cpTurn s) := by
  rw [step, handlerStep, cpTurn_seq, hs]

theorem step_checkResult (hs : s.seq = .checkResult) : step s = stepCheckResult (cpTurn s) := by
  rw [step, handlerStep, cpTurn_seq, hs]

theorem step_dispatchStorage (hs : s.seq = .dispatchStorage) : step s = exec (latchedStorage (cpTurn s)) (cpTurn s) := by
  rw [step, handlerStep, cpTurn_seq, hs]

/-- In the DISPATCH state of its latched block the handler runs the block's class (30_encoding.md R82). -/
theorem step_dispatch (hb : s.cpBusy = false) (hs : s.seq = dispatchSeq s.sb.dispatch) : step s = exec s.sb.dispatch s := by
  rw [step, cpTurn_halted hb, handlerStep, hs]
  by_cases hresult : s.sb.result = 0
  · by_cases hrequest : s.sb.request = 0
    · rw [StatusBlock.dispatch_success hresult hrequest]; rfl
    · rw [StatusBlock.dispatch_storage hresult hrequest]; rfl
  · rw [StatusBlock.dispatch_error hresult]; rfl

/-! ## RUNNING in either key order -/

/-- A busy CHECK_FIRST cycle forwards a key and stays (40_supervisor.md R117). -/
theorem stepRunning_checkFirst_busy (ho : s.cfg.keyOrder = .checkFirst) (hb : s.cpBusy = true) :
    stepRunning s = .next (forwardKey (s.record (.cpBusy true)) (State.setSeq .running)) := by
  simp only [stepRunning, ho, pollBusy, hb, if_true]

/-- A CHECK_FIRST cycle that finds the busy bit clear writes nothing (R117). -/
theorem stepRunning_checkFirst_halted (ho : s.cfg.keyOrder = .checkFirst) (hb : s.cpBusy = false) :
    stepRunning s = .next ((s.record (.cpBusy false)).setSeq .checkResult) := by
  simp only [stepRunning, ho, pollBusy, hb, Bool.false_eq_true, if_false]

/-- The end of a WRITE_FIRST cycle: the busy bit is polled and tested (R118). -/
def pollAndTest (s : State) : State :=
  (s.record (.cpBusy s.cpBusy)).setSeq (if s.cpBusy then .running else .checkResult)

/-- A WRITE_FIRST cycle forwards a key before it tests the busy bit (R118). -/
theorem stepRunning_writeFirst (ho : s.cfg.keyOrder = .writeFirst) :
    stepRunning s = .next (forwardKey s pollAndTest) := by
  have htest : (fun s : State => pollBusy s fun b s => if b then s.setSeq .running else s.setSeq .checkResult)
      = pollAndTest := by
    funext s
    unfold pollBusy pollAndTest
    beta_reduce
    split <;> rfl
  simp only [stepRunning, ho, htest]

theorem pollAndTest_successors (s : State) : (pollAndTest s).seq ∈ SeqState.running.successors := by
  rw [pollAndTest]
  split <;> simp [SeqState.successors]

/-- A cycle stays, finds the co-processor halted, or faults (R117, R118). -/
theorem stepRunning_successors (h : stepRunning s = .next t) : t.seq ∈ SeqState.running.successors := by
  have hforward (u : State) (k : State → State) (hk : ∀ v, (k v).seq ∈ SeqState.running.successors) :
      (forwardKey u k).seq ∈ SeqState.running.successors :=
    forwardKey_elim (P := fun v => v.seq ∈ SeqState.running.successors) (hk _) (by simp [SeqState.successors])
  cases ho : s.cfg.keyOrder with
  | checkFirst =>
    cases hb : s.cpBusy with
    | true =>
      cases (stepRunning_checkFirst_busy ho hb).symm.trans h
      exact hforward _ _ fun _ => by simp [SeqState.successors]
    | false =>
      cases (stepRunning_checkFirst_halted ho hb).symm.trans h
      simp [SeqState.successors]
  | writeFirst =>
    cases (stepRunning_writeFirst ho).symm.trans h
    exact hforward _ _ pollAndTest_successors

/-! ## Where a step goes -/

/-- The DISPATCH states are the ones CHECK_RESULT goes to (R120). -/
theorem dispatchSeq_mem_successors (i : Instr) : dispatchSeq i ∈ SeqState.checkResult.successors := by
  cases i <;> simp [dispatchSeq, SeqState.successors]

/-- Every handler step goes where the table of R131 lets its state go. -/
theorem handlerStep_successors (h : handlerStep s = .next t) : t.seq ∈ s.seq.successors := by
  have hfault (u : State) : (raiseFault .cpRange u).seq = .fault := rfl
  unfold handlerStep at h
  split at h <;> rename_i hs <;> rw [hs]
  · rcases stepProbeLoad_cases h with rfl | rfl <;> simp [SeqState.successors, hfault]
  · rcases stepProbeCheck_cases h with rfl | ⟨-, -, rfl⟩ | ⟨-, rfl⟩ <;>
      simp [SeqState.successors, hfault, enterHaltFailure_eq]
  · rcases stepUpload_cases h with rfl | rfl <;> simp [SeqState.successors, hfault]
  · exact stepRunning_successors h
  · rcases stepCheckResult_cases h with rfl | ⟨b, -, rfl, -⟩
    · simp [SeqState.successors, hfault]
    · exact dispatchSeq_mem_successors b.dispatch
  · cases h; simp [SeqState.successors, enterHaltFailure_eq]
  · have hend := execStorage_end (computed := s.sb.computed) (expected := s.sb.expected) h
    rcases hend.ends with ⟨-, hseq, -⟩ | ⟨-, hseq, -⟩ <;> simp [SeqState.successors, hseq]
  · cases h; simp [SeqState.successors, enterHaltSuccess_eq]
  all_goals cases h; simp [SeqState.successors, hs]

/-- Settles O10: the co-processor's move keeps the sequencer state, and each handler step goes to one of its successors. -/
theorem transitionsOfTable : Obligations.TransitionsOfTable :=
  fun s _ h => cpTurn_seq s ▸ handlerStep_successors h

/-! ## The probe and the upload -/

/-- PROBE_LOAD with the payload in range writes it and starts the co-processor (R111, R112). -/
theorem stepProbeLoad_inside (hw : s.cfg.wf = true) (hr : s.cfg.progStart + s.cfg.probePayload.length ≤ s.cfg.cpMemSize) :
    stepProbeLoad s = .next { s with
      mem := s.mem.writeBytes s.cfg.progStart s.cfg.probePayload
      cpEntry := s.cfg.progStart, cpBusy := true, seq := .probeCheck
      trace := s.trace ++ [.memWrite s.cfg.progStart s.cfg.probePayload, .cpStart s.cfg.progStart] } := by
  rw [stepProbeLoad, if_pos hw, memWrite_inside hr, cpStart_eq]
  simp [State.setMem, State.record, State.setSeq]

/-- UPLOAD with the payload in range writes it and starts the co-processor (R115, R116). -/
theorem stepUpload_inside (hr : s.cfg.progStart + s.cfg.updatePayload.length ≤ s.cfg.cpMemSize) :
    stepUpload s = .next { s with
      mem := s.mem.writeBytes s.cfg.progStart s.cfg.updatePayload
      cpEntry := s.cfg.progStart, cpBusy := true, seq := .running
      trace := s.trace ++ [.memWrite s.cfg.progStart s.cfg.updatePayload, .cpStart s.cfg.progStart] } := by
  rw [stepUpload, memWrite_inside hr, cpStart_eq]
  simp [State.setMem, State.record, State.setSeq]

/-- The capability is the two bytes at an address, both zero (R113). -/
theorem capabilityReadback_readBytes (m : Memory) (a : Nat) :
    capabilityReadback (m.readBytes a 2) = true ↔ m.read a = 0x00 ∧ m.read (a + 1) = 0x00 := by
  simp [capabilityReadback, Memory.readBytes]

/-- s after a failed probe (R113, R128). -/
def probeFailed (s : State) : State :=
  { s with
    capPresent := false, msg := .unsupported, ind := .failure, seq := .haltFailure
    trace := s.trace ++ [.memRead s.cfg.progStart (s.mem.readBytes s.cfg.progStart 2),
      .emit .msgUnsupported, .emit .indFailure] }

/-- PROBE_CHECK with a byte that is not zero fails (R113). -/
theorem stepProbeCheck_fails (hr : s.cfg.progStart + 2 ≤ s.cfg.cpMemSize)
    (hz : ¬ (s.mem.read s.cfg.progStart = 0x00 ∧ s.mem.read (s.cfg.progStart + 1) = 0x00)) :
    stepProbeCheck s = .next (probeFailed s) := by
  rw [stepProbeCheck, fetchBytes_inside hr, if_neg (mt (capabilityReadback_readBytes _ _).1 hz), enterHaltFailure_eq]
  simp [emit, probeFailed, State.record, State.setMsg, State.setCapPresent]

/-- PROBE_CHECK with two zero bytes passes a halted co-processor and refuses a running one (R113; log 12). -/
theorem stepProbeCheck_passes (hr : s.cfg.progStart + 2 ≤ s.cfg.cpMemSize)
    (hz : s.mem.read s.cfg.progStart = 0x00 ∧ s.mem.read (s.cfg.progStart + 1) = 0x00) :
    stepProbeCheck s = if s.cpBusy then .refused .probeUnfinished else .next { s with
      capPresent := true, seq := .upload
      trace := s.trace ++ [.memRead s.cfg.progStart (s.mem.readBytes s.cfg.progStart 2)] } := by
  rw [stepProbeCheck, fetchBytes_inside hr, if_pos ((capabilityReadback_readBytes _ _).2 hz)]
  cases hb : s.cpBusy <;> simp [probeDone, hb, State.record, State.setCapPresent, State.setSeq]

/-- Settles O17: the handler step after the co-processor's move, which keeps configuration and trace. -/
theorem probeLoadStep : Obligations.ProbeLoadStep := by
  intro s hs hw hr
  rw [← cpTurn_cfg s] at hw hr ⊢
  rw [← cpTurn_trace s]
  exact (step_probeLoad hs).trans (stepProbeLoad_inside hw hr)

/-- Settles O19: the handler step after the co-processor's move, which keeps configuration and trace. -/
theorem uploadStep : Obligations.UploadStep := by
  intro s hs hr
  rw [← cpTurn_cfg s] at hr ⊢
  rw [← cpTurn_trace s]
  exact (step_upload hs).trans (stepUpload_inside hr)

/-- Settles O18: the two bytes are read after the co-processor's move, and the handler step passes or fails by them. -/
theorem probeCheckStep : Obligations.ProbeCheckStep := by
  intro s hs hr
  rw [← cpTurn_cfg s] at hr ⊢
  rw [← cpTurn_trace s, step_probeCheck hs]
  split
  · rename_i hz
    exact stepProbeCheck_passes hr hz
  · rename_i hz
    exact stepProbeCheck_fails hr hz

/-- The co-processor's move leaves the bytes it does not name alone (60_exceptions.md R214). -/
theorem cpTurn_read_other {a : Nat} (h : ∀ w ∈ (nextCpMove s).writes, w.1 ≠ a) : (cpTurn s).mem.read a = s.mem.read a := by
  cases hb : s.cpBusy with
  | true => rw [cpTurn_running hb]; exact read_cpWrites_other h _
  | false => rw [cpTurn_halted hb]

/-- A probe payload of two bytes or more that R234 allows, once written, does not read back as two zeros (R114). -/
theorem read_probePayload_not_zero {c : Config} {m : Memory} (hm : Memory.wf m = true) (hw : c.wf = true)
    (hlen : 2 ≤ c.probePayload.length) :
    ¬ ((m.writeBytes c.progStart c.probePayload).read c.progStart = 0x00
      ∧ (m.writeBytes c.progStart c.probePayload).read (c.progStart + 1) = 0x00) := by
  have hread (j : Nat) (hj : j < c.probePayload.length) :
      c.probePayload[j]? = some ((m.writeBytes c.progStart c.probePayload).read (c.progStart + j)) := by
    rw [Memory.read_writeBytes_inside hm _ _ hj, List.getElem?_eq_getElem hj]
  have hsighted : c.probeBlind = false := by
    simp only [Config.wf, Bool.and_eq_true, Bool.not_eq_true'] at hw
    exact hw.2
  rintro ⟨h0, h1⟩
  rw [Config.probeBlind, hread 0 (by omega), hread 1 (by omega), Nat.add_zero, h0, h1] at hsighted
  cases hsighted

/-- A PROBE_CHECK that finds a byte not zero, before a move that leaves both bytes alone, fails (R113, R114). -/
theorem step_probeCheck_fails (hs : s.seq = .probeCheck) (hr : s.cfg.progStart + 2 ≤ s.cfg.cpMemSize)
    (hz : ¬ (s.mem.read s.cfg.progStart = 0x00 ∧ s.mem.read (s.cfg.progStart + 1) = 0x00))
    (hmove : ∀ w ∈ (nextCpMove s).writes, w.1 ≠ s.cfg.progStart ∧ w.1 ≠ s.cfg.progStart + 1) :
    step s = .next (probeFailed (cpTurn s)) := by
  rw [step_probeCheck hs]
  apply stepProbeCheck_fails <;> rw [cpTurn_cfg]
  · exact hr
  · rwa [cpTurn_read_other fun w hw => (hmove w hw).1, cpTurn_read_other fun w hw => (hmove w hw).2]

/-- Settles O24: the readback is the payload's first two bytes, which R234 does not let be both zero. -/
theorem probeFailsSafe : Obligations.ProbeFailsSafe := by
  intro s hs hb hm hw hlen hr hmove
  have hload := probeLoadStep s hs hw hr
  rw [cpTurn_halted hb] at hload
  have hr' := (Nat.add_le_add_left hlen s.cfg.progStart).trans hr
  exact ⟨_, _, hload, step_probeCheck_fails rfl hr' (read_probePayload_not_zero hm hw hlen) hmove, rfl, rfl, rfl, rfl⟩

/-! ## RUNNING's cycles -/

/-- Settles O20: the busy bit polled first decides whether a key is forwarded at all. -/
theorem runningCheckFirst : Obligations.RunningCheckFirst := by
  intro s hs ho
  have ho' : (cpTurn s).cfg.keyOrder = .checkFirst := by rwa [cpTurn_cfg]
  refine ⟨fun hb hr => ?_, fun hb => ?_⟩
  · have hr' : ((cpTurn s).record (.cpBusy true)).cfg.inputAddr < ((cpTurn s).record (.cpBusy true)).cfg.cpMemSize := by
      simpa using hr
    rw [step_running hs, stepRunning_checkFirst_busy ho' hb, forwardKey_inside hr']
    simp [State.setSeq, hs, nextKey]
  · rw [step_running hs, stepRunning_checkFirst_halted ho' hb]
    simp [State.record, State.setSeq]

/-- Settles O21: the key is forwarded, then the busy bit decides. -/
theorem runningWriteFirst : Obligations.RunningWriteFirst := by
  intro s hs ho hr
  rw [step_running hs, stepRunning_writeFirst (by rwa [cpTurn_cfg]), forwardKey_inside (by rwa [cpTurn_cfg])]
  simp [pollAndTest, State.record, State.setSeq]

/-- Settles O22: in both orders the key's write is the access that faults. -/
theorem runningRangeFault : Obligations.RunningRangeFault := by
  intro s hs hr
  rw [step_running hs]
  refine ⟨fun ho hb => ?_, fun ho => ?_⟩
  · rw [stepRunning_checkFirst_busy (by rwa [cpTurn_cfg]) hb, forwardKey_outside (by simpa using hr)]
    exact ⟨_, rfl, rfl, rfl, rfl, by simp [nextKey]⟩
  · rw [stepRunning_writeFirst (by rwa [cpTurn_cfg]), forwardKey_outside (by simpa using hr)]
    exact ⟨_, rfl, rfl, rfl, rfl, by simp⟩

/-! ## STORAGE -/

/-- STORAGE with its block in range is exec of what the block decodes to (41_storage_service.md R151). -/
theorem execStorage_inside {request computed expected : Word}
    (hr : request.toNat + s.cfg.consts.cbLen ≤ s.cfg.cpMemSize)
    (hd : decode s.cfg.consts .control (s.mem.readBytes request.toNat s.cfg.consts.cbLen) = .ok i) :
    execStorage request computed expected s = exec i { s with
      req := request
      trace := s.trace ++ [.memRead request.toNat (s.mem.readBytes request.toNat s.cfg.consts.cbLen)] } := by
  obtain ⟨hformat, -⟩ := encodeAfterDecode _ _ _ _ hd
  rw [execStorage, fetchBytes_inside (s := s.setReq request) hr]
  simp only [State.setReq_mem, State.record_cfg, State.setReq_cfg, hd, runRequest_eq_exec hformat]
  rfl

/-- Settles O5: DISPATCH_STORAGE runs STORAGE on the latched request address. -/
theorem stepRunsControlBlock : Obligations.StepRunsControlBlock := by
  intro s i hs hb hr hd
  rw [step_dispatchStorage hs, cpTurn_halted hb]
  exact execStorage_inside (computed := s.sb.computed) (expected := s.sb.expected) hr hd

/-- Settles O30: ten bytes decode to the request of the block they are. -/
theorem storageRunsService : Obligations.StorageRunsService := by
  intro request computed expected s hk hr
  have hd : decode s.cfg.consts .control (s.mem.readBytes request.toNat s.cfg.consts.cbLen)
      = .ok ((controlBlockAt s.mem request.toNat).request s.cfg.consts) := by
    rw [hk]; exact decode_readBytes _ _ _
  rw [exec, execStorage_inside (by rwa [hk]) hd, hk]

/-! Where a service's accesses lie in memory it ends in RUNNING (40_supervisor.md R125). -/

theorem writeBack_running (hblock : s.req.toNat + 10 ≤ s.cfg.cpMemSize) : (writeBack s).seq = .running := by
  rw [writeBack_inside hblock]

theorem reject_running (e : Byte) (hblock : s.req.toNat + 10 ≤ s.cfg.cpMemSize) : (reject e s).seq = .running :=
  writeBack_running (s := flag e s) hblock

theorem checkLength_running {k : State → State} (hblock : s.req.toNat + 10 ≤ s.cfg.cpMemSize) (hk : (k s).seq = .running) :
    (checkLength s k).seq = .running := by
  unfold checkLength
  split
  · exact hk
  · exact reject_running _ hblock

theorem transferRecord_running (bank off : Nat) (hblock : s.req.toNat + 10 ≤ s.cfg.cpMemSize)
    (hbuf : s.cb.buf.toNat + s.cfg.consts.recSize ≤ s.cfg.cpMemSize) : (transferRecord bank off s).seq = .running := by
  unfold transferRecord romRead
  beta_reduce
  rw [memWrite_inside (by simpa [switchBank] using hbuf)]
  exact writeBack_running hblock

theorem readByTag_running (hblock : s.req.toNat + 10 ≤ s.cfg.cpMemSize)
    (hbuf : s.cb.buf.toNat + s.cfg.consts.recSize ≤ s.cfg.cpMemSize) : (readByTag s).seq = .running := by
  cases h : (resolveTag s.cfg s.tag).bind (fun file => translateRecord s.cfg file s.cb.recNo.toNat) with
  | none => rw [readByTag_rejects h]; exact reject_running _ hblock
  | some target => rw [readByTag_transfers h]; exact transferRecord_running _ _ hblock hbuf

theorem readTag_running (hblock : s.req.toNat + 10 ≤ s.cfg.cpMemSize)
    (htag : s.req.toNat + s.cfg.consts.tagOff + 2 ≤ s.cfg.cpMemSize)
    (hbuf : s.cb.buf.toNat + s.cfg.consts.recSize ≤ s.cfg.cpMemSize) : (readTag s).seq = .running := by
  rw [readTag, memRead_inside htag]
  exact readByTag_running hblock hbuf

/-- A request whose block, tag and buffer lie in memory ends in RUNNING. -/
theorem exec_request_running (hi : i.format = .control) (hblock : s.req.toNat + 10 ≤ s.cfg.cpMemSize)
    (htag : s.req.toNat + s.cfg.consts.tagOff + 2 ≤ s.cfg.cpMemSize)
    (hbuf : ∀ f, i = .readReq f → f.buf.toNat + s.cfg.consts.recSize ≤ s.cfg.cpMemSize) (h : exec i s = .next t) :
    t.seq = .running := by
  cases i with
  | openReq f =>
    cases h
    refine checkLength_running (s := latchRequest s.cfg.consts.opOpen f s) hblock ?_
    split
    · exact writeBack_running hblock
    · exact reject_running _ hblock
  | closeReq f => cases h; rfl
  | readReq f =>
    cases h
    exact checkLength_running (s := latchRequest s.cfg.consts.opRead f s) hblock (readTag_running hblock htag (hbuf f rfl))
  | invalidReq opc f =>
    cases h
    exact checkLength_running (s := latchRequest opc f s) hblock (reject_running _ hblock)
  | success _ _ => cases hi
  | storage _ _ _ => cases hi
  | error _ _ _ _ => cases hi

/-- A block's READ has the block's fields (30_encoding.md R84). -/
theorem request_eq_readReq {k : Consts} {b : ControlBlock} {f : RequestFields} (h : b.request k = .readReq f) :
    f = b.toRequestFields := by
  unfold ControlBlock.request at h
  split_ifs at h
  cases h
  rfl

/-- Settles O31: STORAGE is the request's service, whose accesses lie in memory. -/
theorem storageCompletes : Obligations.StorageCompletes := by
  intro request computed expected s hd hr hbuf
  have hk : s.cfg.consts = .document := hd
  have hformat := ControlBlock.request_format s.cfg.consts (controlBlockAt s.mem request.toNat)
  rw [storageRunsService request computed expected s (congrArg Consts.cbLen hk) (by omega)]
  obtain ⟨t, ht, hend⟩ := exec_request_end hformat { s with
    req := request, trace := s.trace ++ [.memRead request.toNat (s.mem.readBytes request.toNat 10)] }
  have hrun : t.seq = .running := by
    refine exec_request_running hformat ?_ ?_ (fun f hf => ?_) ht
    · show request.toNat + 10 ≤ s.cfg.cpMemSize; omega
    · rw [hk]; exact hr
    · rw [request_eq_readReq hf, hk]; exact hbuf
  refine ⟨t, ht, by rw [hend.keeps], hrun, ?_⟩
  rcases hend.ends with ⟨es, -, hbusy, hfault, htrace, -⟩ | ⟨-, hseq, -⟩
  · exact ⟨hbusy, hfault, by rw [hend.keeps], es, htrace⟩
  · rw [hrun] at hseq; cases hseq

/-! ## The status block's classes -/

/-- Eight bytes at an address decode to the class of the block there (30_encoding.md R80, R82). -/
theorem decode_status_readBytes (k : Consts) (m : Memory) (a : Nat) :
    decode k .status (m.readBytes a 8) = .ok (statusBlockAt m a).dispatch := by
  simp [decode, StatusBlock.ofBytes_readBytes, statusBlockAt]

/-- Only eight bytes decode as a status block (R80; log 33). -/
theorem length_of_decode_status {k : Consts} {bs : List Byte} (h : decode k .status bs = .ok i) : bs.length = 8 := by
  obtain ⟨b, rfl, -⟩ := exists_of_decode_status h
  rfl

/-- Settles O6: CHECK_RESULT latches the block, and its class's state runs it. -/
theorem stepRunsStatusBlock : Obligations.StepRunsStatusBlock := by
  intro s i hs hb hr hd
  have hw : s.cfg.consts.sbWords = 4 := by
    have := length_of_decode_status hd
    rw [Memory.readBytes_length] at this
    omega
  rw [hw] at hr hd
  rw [decode_status_readBytes] at hd
  cases hd
  rw [step_checkResult hs, cpTurn_halted hb]
  exact ⟨_, stepCheckResult_inside hw hr, rfl, rfl, rfl, step_dispatch hb rfl⟩

/-- Settles O29: SUCCESS is the entry into HALT_SUCCESS. -/
theorem successCompletes : Obligations.SuccessCompletes :=
  fun _ _ s => congrArg Host.Outcome.next (enterHaltSuccess_eq s)

/-- Settles O34: the states ERROR and SUCCESS answer, by O28 and O29, differ from the start in these fields alone. -/
theorem haltingClassesFrame : Obligations.HaltingClassesFrame := by
  rintro i s t (⟨r, q, c, e, rfl⟩ | ⟨c, e, rfl⟩) h
  · cases (errorCompletes r q c e s).symm.trans h
    split <;> exact ⟨rfl, nofun, fun _ => rfl⟩
  · cases (successCompletes c e s).symm.trans h
    exact ⟨rfl, fun _ _ _ => rfl, fun _ => rfl⟩

/-! ## When a step answers -/

/-- CHECK_RESULT answers unless SB_WORDS is not 4 (log 33). -/
theorem stepCheckResult_answers (s : State) :
    (s.cfg.consts.sbWords ≠ 4 ∧ stepCheckResult s = .refused (.undecodable .statusBlockLength))
    ∨ ∃ t, stepCheckResult s = .next t := by
  rcases Nat.lt_or_ge s.cfg.cpMemSize (s.cfg.statusAddr + 2 * s.cfg.consts.sbWords) with hr | hr
  · exact .inr ⟨_, stepCheckResult_outside hr⟩
  by_cases hw : s.cfg.consts.sbWords = 4
  · rw [hw] at hr
    exact .inr ⟨_, stepCheckResult_inside hw hr⟩
  · refine .inl ⟨hw, ?_⟩
    rw [stepCheckResult, fetchBytes_inside hr, StatusBlock.ofBytes_eq_none (by simp; omega)]

/-- STORAGE answers unless CB_LEN is not 10 (log 33). -/
theorem exec_storage_answers (request computed expected : Word) (s : State) :
    (s.cfg.consts.cbLen ≠ 10
      ∧ exec (.storage request computed expected) s = .refused (.undecodable .controlBlockLength))
    ∨ ∃ t, exec (.storage request computed expected) s = .next t := by
  rw [exec]
  rcases Nat.lt_or_ge s.cfg.cpMemSize (request.toNat + s.cfg.consts.cbLen) with hr | hr
  · rw [execStorage, fetchBytes_outside (s := s.setReq request) hr]
    exact .inr ⟨_, rfl⟩
  by_cases hk : s.cfg.consts.cbLen = 10
  · rw [hk] at hr
    obtain ⟨t, ht, -⟩ := exec_request_end (ControlBlock.request_format _ _) _
    exact .inr ⟨t, (storageRunsService request computed expected s hk hr).trans ht⟩
  · refine .inl ⟨hk, ?_⟩
    rw [execStorage, fetchBytes_inside (s := s.setReq request) hr, decode, ControlBlock.ofBytes_eq_none (by simpa using hk)]

/-- PROBE_CHECK answers unless the probe would pass while the co-processor runs (log 12). -/
theorem stepProbeCheck_answers (s : State) :
    (s.cpBusy = true ∧ s.mem.read s.cfg.progStart = 0x00 ∧ s.mem.read (s.cfg.progStart + 1) = 0x00
      ∧ stepProbeCheck s = .refused .probeUnfinished)
    ∨ ∃ t, stepProbeCheck s = .next t := by
  rcases Nat.lt_or_ge s.cfg.cpMemSize (s.cfg.progStart + 2) with hr | hr
  · exact .inr ⟨_, stepProbeCheck_outside hr⟩
  by_cases hz : s.mem.read s.cfg.progStart = 0x00 ∧ s.mem.read (s.cfg.progStart + 1) = 0x00
  · rw [stepProbeCheck_passes hr hz]
    cases hb : s.cpBusy with
    | true => exact .inl ⟨rfl, hz.1, hz.2, rfl⟩
    | false => exact .inr ⟨_, rfl⟩
  · exact .inr ⟨_, stepProbeCheck_fails hr hz⟩

/-- Settles O11: by the sequencer state; only the steps that may refuse need their conditions. -/
theorem everyStepAnswers : Obligations.EveryStepAnswers := by
  intro s
  rw [← cpTurn_cfg s]
  cases hs : s.seq with
  | probeLoad =>
    rw [step_probeLoad hs]
    cases hw : (cpTurn s).cfg.wf with
    | false => exact .inl ⟨rfl, rfl, by rw [stepProbeLoad, hw]; rfl⟩
    | true => exact .inr (.inr (.inr (.inr ⟨fun _ => rfl, _, if_pos hw⟩)))
  | probeCheck =>
    rw [step_probeCheck hs]
    rcases stepProbeCheck_answers (cpTurn s) with ⟨hb, h0, h1, h⟩ | h
    · exact .inr (.inl ⟨rfl, hb, h0, h1, h⟩)
    · exact .inr (.inr (.inr (.inr ⟨nofun, h⟩)))
  | checkResult =>
    rw [step_checkResult hs]
    rcases stepCheckResult_answers (cpTurn s) with ⟨hw, h⟩ | h
    · exact .inr (.inr (.inl ⟨rfl, hw, h⟩))
    · exact .inr (.inr (.inr (.inr ⟨nofun, h⟩)))
  | dispatchStorage =>
    rw [step_dispatchStorage hs]
    rcases exec_storage_answers _ _ _ (cpTurn s) with ⟨hk, h⟩ | h
    · exact .inr (.inr (.inr (.inl ⟨rfl, hk, h⟩)))
    · exact .inr (.inr (.inr (.inr ⟨nofun, h⟩)))
  | _ =>
    refine .inr (.inr (.inr (.inr ⟨nofun, ?_⟩)))
    rw [step, handlerStep, cpTurn_seq, hs]
    exact ⟨_, rfl⟩

end Sys2Proof.Machine
end

section
/-! PROOFS of the statements about the storage service: STORAGE's range fault and frame, and the meanings and the frame of OPEN,
CLOSE and INVALID. -/

namespace Sys2Proof.Machine

variable {s t : State} {f : RequestFields}

/-! ## The block a request is answered with -/

/-- OPEN answers with its block, flagged unless the length is the record's and the attribute byte is OPEN_ATTR
(41_storage_service.md R154, R156). -/
def openAnswer (f : RequestFields) (s : State) : ControlBlock :=
  if lengthOk s.cfg.consts (ControlBlock.ofFields s.cfg.consts.opOpen f) = true ∧ f.err = s.cfg.openAttr then
    ControlBlock.ofFields s.cfg.consts.opOpen f
  else orErr s.cfg.consts.errBadAttr (ControlBlock.ofFields s.cfg.consts.opOpen f)

/-- OPEN writes its answer back, whatever its tests say (R156). -/
theorem exec_openReq (f : RequestFields) (s : State) :
    exec (.openReq f) s = .next (writeBack (s.setCb (openAnswer f s))) := by
  rw [exec, execOpenReq, checkLength, openAnswer, latchRequest_cfg, latchRequest_cb]
  by_cases hlen : lengthOk s.cfg.consts (ControlBlock.ofFields s.cfg.consts.opOpen f) = true
  · by_cases hattr : f.err = s.cfg.openAttr
    · rw [if_pos hlen, if_pos (by simpa [attrAccepted] using hattr), if_pos ⟨hlen, hattr⟩]; rfl
    · rw [if_pos hlen, if_neg (by simpa [attrAccepted] using hattr), if_neg (mt And.right hattr)]; rfl
  · rw [if_neg hlen, if_neg (mt And.left hlen)]; rfl

/-- INVALID writes its block back flagged: the length check's rejection is its own (R154, R157). -/
theorem exec_invalidReq (opc : Byte) (f : RequestFields) (s : State) : exec (.invalidReq opc f) s
    = .next (writeBack (s.setCb (orErr s.cfg.consts.errBadAttr (ControlBlock.ofFields opc f)))) := by
  rw [exec, execInvalidReq, checkLength, ite_self]; rfl

/-- A block latched and written back in range is the service's end (R158). -/
theorem writeBack_setCb_inside (hr : s.req.toNat + 10 ≤ s.cfg.cpMemSize) (b : ControlBlock) :
    writeBack (s.setCb b) = writtenBack b s :=
  writeBack_inside (s := s.setCb b) hr

/-- Settles O36: with the record's length the attribute byte alone decides the answer. -/
theorem openCompletes : Obligations.OpenCompletes := by
  intro f s hd hlen hr
  have hk : s.cfg.consts = .document := hd
  have hl : lengthOk .document (ControlBlock.ofFields Consts.document.opOpen f) = true := (lengthOk_document_iff _).2 hlen
  rw [exec_openReq, writeBack_setCb_inside hr, openAnswer, hk]
  by_cases hattr : f.err = s.cfg.openAttr
  · rw [if_pos ⟨hl, hattr⟩, if_pos hattr]; rfl
  · rw [if_neg (mt And.right hattr), if_neg hattr]; rfl

/-- Settles O37: INVALID's answer is the same at every length. -/
theorem invalidCompletes : Obligations.InvalidCompletes := by
  intro opc f s hd hr
  have hk : s.cfg.consts = .document := hd
  rw [exec_invalidReq, writeBack_setCb_inside hr, hk]; rfl

/-- Settles O38: OPEN and READ fail the length check, and INVALID is flagged at every length, by O37. -/
theorem lengthCheckRejects : Obligations.LengthCheckRejects := by
  intro f s hd hlen hr
  have hk : s.cfg.consts = .document := hd
  have hl (opc : Byte) : ¬ lengthOk s.cfg.consts (ControlBlock.ofFields opc f) = true := by
    rw [hk]; exact mt (lengthOk_document_iff _).1 hlen
  refine ⟨?_, ?_, fun opc => invalidCompletes opc f s hd hr⟩
  · rw [exec_openReq, writeBack_setCb_inside hr, openAnswer, if_neg (mt And.left (hl _)), hk]; rfl
  · rw [exec_readReq_badLength (Bool.eq_false_of_not_eq_true (hl _))]
    refine congrArg Host.Outcome.next ((writeBack_setCb_inside hr _).trans ?_)
    rw [latchRequest_cb, hk]; rfl

/-- Settles O35: CLOSE only latches its block and resumes. -/
theorem closeCompletes : Obligations.CloseCompletes := by
  intro f s hd
  have hk : s.cfg.consts = .document := hd
  rw [exec, execCloseReq, resume_eq, hk]; rfl

/-! ## The frame of OPEN, CLOSE and INVALID -/

/-- t has the tag and the bank of s, and every byte outside the block at REQ (41_storage_service.md R159, 10_state.md R28,
R29). -/
def BlockFrame (s t : State) : Prop :=
  t.tag = s.tag ∧ t.bankSel = s.bankSel ∧ ∀ a, (a < s.req.toNat ∨ s.req.toNat + 10 ≤ a) → t.mem.read a = s.mem.read a

/-- A write-back, in range or not, keeps all but the block (R158). -/
theorem writeBack_setCb_blockFrame (b : ControlBlock) (s : State) : BlockFrame s (writeBack (s.setCb b)) :=
  ⟨writeBack_elim (P := fun u => u.tag = s.tag) (fun _ => rfl) fun _ => rfl,
    writeBack_elim (P := fun u => u.bankSel = s.bankSel) (fun _ => rfl) fun _ => rfl,
    fun _ ha => writeBack_read_outside (s := s.setCb b) ha⟩

theorem exec_openReq_blockFrame (h : exec (.openReq f) s = .next t) : BlockFrame s t := by
  cases (exec_openReq f s).symm.trans h
  exact writeBack_setCb_blockFrame _ s

theorem exec_invalidReq_blockFrame {opc : Byte} (h : exec (.invalidReq opc f) s = .next t) : BlockFrame s t := by
  cases (exec_invalidReq opc f s).symm.trans h
  exact writeBack_setCb_blockFrame _ s

/-- CLOSE changes no byte, the block's included (R153). -/
theorem exec_closeReq_mem (h : exec (.closeReq f) s = .next t) : t.mem = s.mem := by
  cases h; rfl

theorem exec_request_serviceKeeps {i : Instr} (hi : i.format = .control) (h : exec i s = .next t) : serviceKeeps s t := by
  obtain ⟨u, hu, hend⟩ := exec_request_end hi s
  cases hu.symm.trans h
  exact hend.serviceKeeps

/-- Settles O40: OPEN and INVALID are a write-back of their answer, CLOSE makes none. -/
theorem requestFrame : Obligations.RequestFrame := by
  rintro i f opc s t (rfl | rfl | rfl) h
  · obtain ⟨htag, hbank, hmem⟩ := exec_openReq_blockFrame h
    exact ⟨exec_request_serviceKeeps rfl h, htag, hbank, hmem, nofun⟩
  · have hmem a : t.mem.read a = s.mem.read a := by rw [exec_closeReq_mem h]
    refine ⟨exec_request_serviceKeeps rfl h, ?_, ?_, fun a _ => hmem a, fun _ => hmem⟩ <;> cases h <;> rfl
  · obtain ⟨htag, hbank, hmem⟩ := exec_invalidReq_blockFrame h
    exact ⟨exec_request_serviceKeeps rfl h, htag, hbank, hmem, nofun⟩

/-! ## STORAGE -/

/-- Settles O32: the fetch of the control block is STORAGE's first access. -/
theorem storageOutOfRange : Obligations.StorageOutOfRange := by
  intro request computed expected s hr
  rw [exec, execStorage, fetchBytes_outside (s := s.setReq request) hr, raiseFault_eq]; rfl

/-- Bytes of another length than a control block's are refused (30_encoding.md R84; log 33). -/
theorem exec_storage_refused {request computed expected : Word} (hr : request.toNat + s.cfg.consts.cbLen ≤ s.cfg.cpMemSize)
    (hk : s.cfg.consts.cbLen ≠ 10) :
    exec (.storage request computed expected) s = .refused (.undecodable .controlBlockLength) := by
  rw [exec, execStorage, fetchBytes_inside (s := s.setReq request) hr, decode, ControlBlock.ofBytes_eq_none (by simpa using hk)]

/-- The inversion of STORAGE: it faults on its block's range, or it is exec of the request of the block at the request address
(41_storage_service.md R150, R151). -/
theorem exec_storage_cases {request computed expected : Word} (h : exec (.storage request computed expected) s = .next t) :
    t = { s with req := request, fault := .cpRange, seq := .fault }
    ∨ exec ((controlBlockAt s.mem request.toNat).request s.cfg.consts) { s with
        req := request, trace := s.trace ++ [.memRead request.toNat (s.mem.readBytes request.toNat 10)] } = .next t := by
  rcases Nat.lt_or_ge s.cfg.cpMemSize (request.toNat + s.cfg.consts.cbLen) with hr | hr
  · cases (storageOutOfRange request computed expected s hr).symm.trans h
    exact .inl rfl
  by_cases hk : s.cfg.consts.cbLen = 10
  · exact .inr ((storageRunsService request computed expected s hk (by rwa [hk] at hr)).symm.trans h)
  · cases (exec_storage_refused hr hk).symm.trans h

/-- A request changes no byte outside its block and, for a READ, its buffer (R159, 42_storage_read.md R185). -/
theorem exec_request_read_outside {i : Instr} (hi : i.format = .control) (h : exec i s = .next t) {a : Nat}
    (ha : a < s.req.toNat ∨ s.req.toNat + 10 ≤ a)
    (hbuf : ∀ f, i = .readReq f → a < f.buf.toNat ∨ f.buf.toNat + s.cfg.consts.recSize ≤ a) :
    t.mem.read a = s.mem.read a := by
  cases i with
  | openReq f =>
    obtain ⟨-, -, hmem⟩ := exec_openReq_blockFrame h
    exact hmem a ha
  | closeReq f => rw [exec_closeReq_mem h]
  | readReq f =>
    obtain ⟨-, hmem, -⟩ := readFrame f s t h
    exact hmem a ha (hbuf f rfl)
  | invalidReq opc f =>
    obtain ⟨-, -, hmem⟩ := exec_invalidReq_blockFrame h
    exact hmem a ha
  | success _ _ => cases hi
  | storage _ _ _ => cases hi
  | error _ _ _ _ => cases hi

/-- A block whose request is a READ has the READ opcode (30_encoding.md R94). -/
theorem opc_of_request_readReq {k : Consts} {b : ControlBlock} (h : b.request k = .readReq f) : b.opc = k.opRead := by
  unfold ControlBlock.request at h
  split_ifs at h with hclose hread
  exact hread

/-- Settles O33: STORAGE faults with memory kept, or is the service of the block's request, whose frame is its own. -/
theorem storageFrame : Obligations.StorageFrame := by
  intro request computed expected s t h
  refine ⟨(execStorage_end (computed := computed) (expected := expected) h).serviceKeeps, fun a ha hbuf => ?_⟩
  rcases exec_storage_cases h with rfl | hreq
  · rfl
  · refine exec_request_read_outside (ControlBlock.request_format _ _) hreq ha fun f hf => ?_
    rw [request_eq_readReq hf]
    exact hbuf (opc_of_request_readReq hf)

end Sys2Proof.Machine
end

section
/-! PROOFS of the statements about READ: the tag resolver, the translator and bounds checker, the updated block, what a READ
answers, and what it leaves in memory. -/

namespace Sys2Proof.Machine

variable {s : State} {c : Config} {f : RequestFields} {file : VirtualFile} {n : Nat}

/-! ## The tag resolver -/

/-- A tag is the document's TAG1 when its two bytes are (30_encoding.md R99; log 18). -/
theorem eq_tag1_document_iff (t : Tag) : t = Consts.document.tag1 ↔ t.c0 = 0x42 ∧ t.c1 = 0x49 := by
  cases t; exact Iff.of_eq (Tag.mk.injEq ..)

/-- Settles O43: the resolver's two tests, and each file's two bounds. -/
theorem tagSelectsFile : Obligations.TagSelectsFile := by
  intro c t hk
  rw [resolveTag, hk, ite_cond_congr (propext (eq_tag1_document_iff t))]
  split_ifs <;> rfl

theorem resolveTag_tag1 : resolveTag c c.consts.tag1 = some .file1 := if_pos rfl

/-- A well-formed configuration's TAG2 is not TAG1 (42_storage_read.md R173, 70_reset_and_hazards.md R234). -/
theorem resolveTag_tag2 (hw : c.wf = true) : resolveTag c c.tag2 = some .file2 := by
  simp only [Config.wf, Bool.and_eq_true, bne_iff_ne] at hw
  obtain ⟨⟨-, htags⟩, -⟩ := hw
  rw [resolveTag, if_neg htags.symm, if_pos rfl]

theorem resolveTag_of_ne {t : Tag} (htag1 : t ≠ c.consts.tag1) (htag2 : t ≠ c.tag2) : resolveTag c t = none := by
  rw [resolveTag, if_neg htag1, if_neg htag2]

/-! ## The translator and bounds checker under the document's constants -/

theorem targetBank_document (hk : c.consts = .document) (file : VirtualFile) (n : Nat) :
    targetBank c file n = (n / 126 + firstBank c file) % 2 ^ c.bankW := by
  rw [targetBank, hk]; rfl

theorem bankOffset_document (hk : c.consts = .document) (n : Nat) : bankOffset c n = n % 126 * 128 := by
  rw [bankOffset, hk]; rfl

/-- The bounds checker fails a record exactly when its bank is outside `[B0, next)` (R179). -/
theorem translateRecord_eq_none_iff :
    translateRecord c file n = none ↔ targetBank c file n ≥ nextBank c file ∨ targetBank c file n < c.b0 := by
  rw [translateRecord]; split_ifs with h <;> simp [h]

/-- Each file begins at B0 or later and at B1 or earlier, has a bank, and ends at a bank number (70_reset_and_hazards.md R234). -/
theorem file_bounds (hw : c.wf = true) (file : VirtualFile) : c.b0 ≤ firstBank c file ∧ firstBank c file ≤ c.b1
    ∧ firstBank c file < nextBank c file ∧ nextBank c file < 2 ^ c.bankW := by
  simp only [Config.wf, Bool.and_eq_true, decide_eq_true_eq] at hw
  obtain ⟨⟨⟨⟨⟨-, hfirst⟩, hlast⟩, hwidth⟩, -⟩, -⟩ := hw
  have hpow := Nat.two_pow_pos c.bankW
  cases file <;> simp only [firstBank, nextBank] <;> omega

/-- Settles O52: the sum of a record of the file is below the file's end, so it is its own remainder mod 2^BANK_W. -/
theorem recordsOfFileSucceed : Obligations.RecordsOfFileSucceed := by
  intro c file n hw hk hn
  obtain ⟨hfirst, -, -, hnext⟩ := file_bounds hw file
  have hquot : n / 126 + firstBank c file < nextBank c file := by omega
  have hbank : targetBank c file n = firstBank c file + n / 126 := by
    rw [targetBank_document hk, Nat.mod_eq_of_lt (hquot.trans hnext), Nat.add_comm]
  rw [translateRecord, bankOffset_document hk, hbank, if_neg (by omega)]

/-- Settles O53: past the file's end the sum is at least the end; if it wraps, the condition puts it below B0, since the quotient
of a 16-bit record number is at most 520 (42_storage_read.md R176). -/
theorem noAliasingUnderCondition : Obligations.NoAliasingUnderCondition := by
  intro c file r hw hk ha
  refine ⟨fun hsome => ?_, fun hr => by simp [recordsOfFileSucceed c file r.toNat hw hk hr]⟩
  by_contra hpast
  refine hsome (translateRecord_eq_none_iff.2 ?_)
  obtain ⟨-, hfirst, -, hnext⟩ := file_bounds hw file
  have hcond : c.b1 + 520 < 2 ^ c.bankW + c.b0 := of_decide_eq_true ha
  have hquot : r.toNat / 126 ≤ 520 := by omega
  have hsum : nextBank c file ≤ r.toNat / 126 + firstBank c file := by omega
  rw [targetBank_document hk]
  rcases Nat.lt_or_ge (r.toNat / 126 + firstBank c file) (2 ^ c.bankW) with hlt | hwrap
  · left; rwa [Nat.mod_eq_of_lt hlt]
  · right; rw [Nat.mod_eq_sub_mod hwrap]
    exact (Nat.mod_le _ _).trans_lt (by omega)

/-- Settles O54: a remainder mod 126 is at most 125. -/
theorem recordInsideBank : Obligations.RecordInsideBank := by
  intro c file n bank off hk h
  have hoff : off = n % 126 * 128 := by
    rw [translateRecord, bankOffset_document hk] at h
    split_ifs at h
    cases h; rfl
  have hrem : n % 126 < 126 := Nat.mod_lt n (by decide)
  exact ⟨hoff ▸ Nat.dvd_mul_left 128 _, by omega, by omega⟩

/-! ## The updated block -/

theorem toNat_hiByte (v : Word) : (hiByte v).toNat = v.toNat / 256 := by
  simp [hiByte, Nat.shiftRight_eq_div_pow]; omega

theorem toNat_loByte (v : Word) : (loByte v).toNat = v.toNat % 256 := by
  simp [loByte]

theorem loByte_add_one (v : Word) : loByte (v + 1) = loByte v + 1 := by
  apply BitVec.eq_of_toNat_eq
  rw [toNat_loByte, BitVec.toNat_add, BitVec.toNat_add, toNat_loByte]
  simp

/-- The increment carries out of a low byte of 0xFF, and out of no other (42_storage_read.md R183). -/
theorem hiByte_add_one (v : Word) : hiByte (v + 1) = if loByte v = 0xFF then hiByte v + 1 else hiByte v := by
  have hlow : loByte v = 0xFF ↔ v.toNat % 256 = 255 := by rw [← BitVec.toNat_inj, toNat_loByte]; rfl
  apply BitVec.eq_of_toNat_eq
  split_ifs with h <;> rw [hlow] at h
  · simp [toNat_hiByte]; omega
  · simp [toNat_hiByte]; omega

/-- Settles O51: the two bytes of the record number plus one, and its reduction mod 2^16. -/
theorem recordIncrementCarries : Obligations.RecordIncrementCarries := by
  intro b
  refine ⟨?_, BitVec.toNat_add _ _⟩
  rw [← hiByte_add_one, ← loByte_add_one]; rfl

/-! ## What a READ answers under the document's constants -/

theorem lengthOk_read_document (hd : s.documented) (hlen : f.rlen = 0x80) :
    lengthOk s.cfg.consts (ControlBlock.ofFields s.cfg.consts.opRead f) = true := by
  have hk : s.cfg.consts = .document := hd
  rw [hk]; exact (lengthOk_document_iff _).2 hlen

/-- A READ of the record's length with its tag in range goes on by the tag, from the block latched and the tag read
(42_storage_read.md R170, R171). -/
theorem exec_readReq_document (hd : s.documented) (hlen : f.rlen = 0x80) (hr : s.req.toNat + 21 ≤ s.cfg.cpMemSize) :
    exec (.readReq f) s = .next (readByTag ((tagRead s).setCb (ControlBlock.ofFields 0x02 f))) := by
  have hk : s.cfg.consts = .document := hd
  rw [exec_readReq_tagInside (lengthOk_read_document hd hlen) (by rw [hk]; exact hr), tagLatched, hk]; rfl

/-- A rejection once the tag has been read writes the block back flagged (41_storage_service.md R158, 60_exceptions.md R202). -/
theorem reject_setCb_tagRead (hr : s.req.toNat + 21 ≤ s.cfg.cpMemSize) (e : Byte) (b : ControlBlock) :
    reject e ((tagRead s).setCb b) = writtenBack (orErr e b) (tagRead s) :=
  writeBack_setCb_inside (s := tagRead s) (show s.req.toNat + 10 ≤ s.cfg.cpMemSize by omega) (orErr e b)

/-- Settles O42: the resolver finds no file. -/
theorem readBadName : Obligations.ReadBadName := by
  intro f s hd hlen hr htag1 htag2
  have hk : s.cfg.consts = .document := hd
  have hnone : resolveTag s.cfg (tagAt s.mem (s.req.toNat + 19)) = none :=
    resolveTag_of_ne (by rw [hk]; exact htag1) htag2
  rw [exec_readReq_document hd hlen hr, readByTag_of_noFile hnone, reject_setCb_tagRead hr]
  exact congrArg (fun k => Host.Outcome.next (writtenBack (orErr k.errBadName _) _)) hk

theorem readFromFile_of_none (h : translateRecord s.cfg file s.cb.recNo.toNat = none) :
    readFromFile file s = reject s.cfg.consts.errEof s := by
  rw [readFromFile, h]

/-- Settles O45: the bounds checker fails the record. -/
theorem readPastEnd : Obligations.ReadPastEnd := by
  intro f s file hd hlen hr hfile hbounds
  have hk : s.cfg.consts = .document := hd
  have hnone : translateRecord s.cfg file f.recNo.toNat = none := by
    rw [translateRecord_eq_none_iff, targetBank_document hk]; exact hbounds
  rw [exec_readReq_document hd hlen hr, readByTag_of_file hfile, readFromFile_of_none hnone, reject_setCb_tagRead hr]
  exact congrArg (fun k => Host.Outcome.next (writtenBack (orErr k.errEof _) _)) hk

/-- Settles O46: the tag read is READ's first access. -/
theorem readTagOutOfRange : Obligations.ReadTagOutOfRange := by
  intro f s hd hlen hr
  have hk : s.cfg.consts = .document := hd
  rw [exec_readReq_tagOutside (lengthOk_read_document hd hlen) (by rw [hk]; exact hr), raiseFault_eq, latchRequest, hk]; rfl

/-! ## The transfer -/

/-- A transfer with the buffer and the block in range switches the bank, writes the record to the buffer and then the updated
block back (R180-R186). -/
theorem transferRecord_inside (hbuf : s.cb.buf.toNat + s.cfg.consts.recSize ≤ s.cfg.cpMemSize)
    (hblock : s.req.toNat + 10 ≤ s.cfg.cpMemSize) (bank off : Nat) :
    transferRecord bank off s = writtenBack (transferred s.cfg.consts s.cb) { s with
      bankSel := bank
      mem := s.mem.writeBytes s.cb.buf.toNat (romBytes s.cfg bank off s.cfg.consts.recSize)
      trace := s.trace ++ [.switchBank bank, .romRead off s.cfg.consts.recSize,
        .memWrite s.cb.buf.toNat (romBytes s.cfg bank off s.cfg.consts.recSize)] } := by
  rw [transferRecord, romRead, memWrite_inside (by simpa [switchBank] using hbuf),
    writeBack_setCb_inside (by simpa [switchBank] using hblock)]
  simp [switchBank_eq, State.record, State.setMem]

/-- A transfer with the buffer out of range faults with the bank switched and the record read (R188). -/
theorem transferRecord_outside (hbuf : s.cfg.cpMemSize < s.cb.buf.toNat + s.cfg.consts.recSize) (bank off : Nat) :
    transferRecord bank off s = { s with
      bankSel := bank, fault := .cpRange, seq := .fault
      trace := s.trace ++ [.switchBank bank, .romRead off s.cfg.consts.recSize] } := by
  rw [transferRecord, romRead, memWrite_outside (by simpa [switchBank] using hbuf)]
  simp [raiseFault_eq, switchBank_eq, State.record]

/-- A READ of a record the translator lets through transfers it (R180). -/
theorem exec_readReq_transfers_document {bank off : Nat} (hd : s.documented) (hlen : f.rlen = 0x80)
    (hr : s.req.toNat + 21 ≤ s.cfg.cpMemSize) (hfile : resolveTag s.cfg (tagAt s.mem (s.req.toNat + 19)) = some file)
    (htarget : translateRecord s.cfg file f.recNo.toNat = some (bank, off)) :
    exec (.readReq f) s = .next (transferRecord bank off ((tagRead s).setCb (ControlBlock.ofFields 0x02 f))) :=
  (exec_readReq_document hd hlen hr).trans
    (congrArg Host.Outcome.next (readByTag_transfers (Option.bind_eq_some_iff.2 ⟨file, hfile, htarget⟩)))

/-- Settles O41: the transfer of the latched block, in range. -/
theorem readTransfers : Obligations.ReadTransfers := by
  intro f s file bank off hd hlen hr hbuf hfile htarget
  have hk : ((tagRead s).setCb (ControlBlock.ofFields 0x02 f)).cfg.consts = .document := hd
  have hblock : s.req.toNat + 10 ≤ s.cfg.cpMemSize := by omega
  rw [exec_readReq_transfers_document hd hlen hr hfile htarget,
    transferRecord_inside (by rw [hk]; exact hbuf) (by exact hblock), hk]
  rfl

/-- Settles O47: the transfer of the latched block, the buffer out of range. -/
theorem readBufferOutOfRange : Obligations.ReadBufferOutOfRange := by
  intro f s file bank off hd hlen hr hbuf hfile htarget
  have hk : ((tagRead s).setCb (ControlBlock.ofFields 0x02 f)).cfg.consts = .document := hd
  rw [exec_readReq_transfers_document hd hlen hr hfile htarget, transferRecord_outside (by rw [hk]; exact hbuf), hk]
  rfl

/-! ## What a transfer leaves in memory -/

/-- A read after writing bytes: the written byte inside the range, the old one outside. -/
theorem Memory.read_writeBytes {m : Memory} (h : Memory.wf m = true) (a : Nat) (bs : List Byte) (b : Nat) :
    (m.writeBytes a bs).read b = if a ≤ b ∧ b < a + bs.length then bs.getD (b - a) 0 else m.read b := by
  split_ifs with hin
  · obtain ⟨i, rfl⟩ := Nat.exists_eq_add_of_le hin.1
    have hi : i < bs.length := by omega
    rw [Memory.read_writeBytes_inside h a bs hi, Nat.add_sub_cancel_left, List.getD_eq_getElem _ _ hi]
  · exact Memory.read_writeBytes_outside (by omega) m

theorem romBytes_getD {bank off i n : Nat} (hi : i < n) : (romBytes c bank off n).getD i 0 = romByte c bank (off + i) := by
  rw [List.getD_eq_getElem _ _ (by simpa using hi)]; simp [romBytes]

theorem writtenBack_mem (b : ControlBlock) (s : State) :
    (writtenBack b s).mem = s.mem.writeBytes s.req.toNat b.bytes := rfl

/-- Settles O48: of the two writes of O41 the block's comes last. -/
theorem readLeavesInMemory : Obligations.ReadLeavesInMemory := by
  intro f s file bank off hd hlen hwf hr hbuf hfile htarget
  refine ⟨_, readTransfers f s file bank off hd hlen hr hbuf hfile htarget, rfl, rfl, fun a => ?_⟩
  rw [writtenBack_mem, Memory.read_writeBytes (Memory.writeBytes_wf hwf _ _), Memory.read_writeBytes hwf, romBytes_length,
    ControlBlock.bytes_length]
  refine if_congr Iff.rfl ?_ (if_ctx_congr Iff.rfl (fun hin => romBytes_getD (by omega)) fun _ => rfl)
  rw [ControlBlock.bytes, hlen]; rfl

/-- Settles O44: the tag's file by the resolver, the record's bank and offset by O52, the end by O41 and the bytes by O48. -/
theorem readRecordOfFile : Obligations.ReadRecordOfFile := by
  intro f s first next hd hw hwf hlen hr hbuf htag hrec
  have hk : s.cfg.consts = .document := hd
  obtain ⟨file, hfile, rfl, rfl⟩ : ∃ file, resolveTag s.cfg (tagAt s.mem (s.req.toNat + 19)) = some file
      ∧ first = firstBank s.cfg file ∧ next = nextBank s.cfg file := by
    rcases htag with ⟨htag, hfirst, hnext⟩ | ⟨htag, hfirst, hnext⟩
    · exact ⟨.file1, by rw [htag, ← resolveTag_tag1, hk]; rfl, hfirst, hnext⟩
    · exact ⟨.file2, by rw [htag, resolveTag_tag2 hw], hfirst, hnext⟩
  have htarget := recordsOfFileSucceed s.cfg file f.recNo.toNat hw hk hrec
  have hexec := readTransfers f s file _ _ hd hlen hr hbuf hfile htarget
  obtain ⟨t, ht, hbank, hseq, hmem⟩ := readLeavesInMemory f s file _ _ hd hlen hwf hr hbuf hfile htarget
  cases hexec.symm.trans ht
  refine ⟨_, hexec, hseq, hbank, rfl, rfl, rfl, fun i hi hout => ?_⟩
  rw [hmem, if_neg (by omega), if_pos (by omega), Nat.add_sub_cancel_left]

end Sys2Proof.Machine
end

section
/-! PROOFS of the statements about exceptions and the co-processor: the entry into FAULT (60_exceptions.md R205), the co-processor's
move (R214, R217) and RUNNING under a co-processor that never halts (R215). -/

namespace Sys2Proof.Machine

variable {s t : State}

/-! ## The entry into FAULT -/

/-- The transactions a step that enters FAULT may still record: none that starts or continues the co-processor, and no output
(60_exceptions.md R205). -/
def Event.beforeFault : Event → Prop
  | .cpStart _ => False
  | .cpContinue => False
  | .emit _ => False
  | .memRead _ _ => True
  | .memWrite _ _ => True
  | .switchBank _ => True
  | .romRead _ _ => True
  | .cpBusy _ => True
  | .pollKey _ => True

theorem Event.ofService_beforeFault {size : Nat} {e : Event} (h : e.ofService size) : e.beforeFault := by
  cases e <;> trivial

/-- t is a state that a handler step from s may enter FAULT in: CP_RANGE is latched, the outputs and the co-processor's control
are as in s (R205). -/
structure FaultEntered (s t : State) : Prop where
  fault : t.fault = .cpRange
  ind : t.ind = s.ind
  msg : t.msg = s.msg
  cpBusy : t.cpBusy = s.cpBusy
  cpEntry : t.cpEntry = s.cpEntry
  trace : TraceAdds Event.beforeFault s t

theorem faultEntered_raiseFault (s : State) : FaultEntered s (raiseFault .cpRange s) :=
  ⟨rfl, rfl, rfl, rfl, rfl, .of_trace_eq rfl⟩

/-- RUNNING faults where it forwards the key, after the polls of its order (40_supervisor.md R117, R118). -/
theorem stepRunning_faultEntered (h : stepRunning s = .next t) (ht : t.seq = .fault) : FaultEntered s t := by
  have hforward (k : State → State) (u : State) (hk : ∀ v, (k v).seq ≠ .fault) (ht : (forwardKey u k).seq = .fault) :
      FaultEntered u (forwardKey u k) :=
    forwardKey_elim (P := fun v => v.seq = .fault → FaultEntered u v) (fun hv => absurd hv (hk _))
      (fun _ => ⟨rfl, rfl, rfl, rfl, rfl, [.pollKey (nextKey u)], rfl, by simp [Event.beforeFault]⟩) ht
  cases ho : s.cfg.keyOrder with
  | checkFirst =>
    cases hb : s.cpBusy with
    | true =>
      cases (stepRunning_checkFirst_busy ho hb).symm.trans h
      obtain ⟨hfault, hind, hmsg, hbusy, hentry, htrace⟩ := hforward _ _ (fun _ => by simp) ht
      exact ⟨hfault, hind, hmsg, hbusy, hentry, htrace.after (es := [.cpBusy true]) rfl (by simp [Event.beforeFault])⟩
    | false =>
      cases (stepRunning_checkFirst_halted ho hb).symm.trans h
      cases ht
  | writeFirst =>
    cases (stepRunning_writeFirst ho).symm.trans h
    exact hforward _ _ (fun v => by rw [pollAndTest]; split <;> simp) ht

/-- A service that ends in FAULT was not continued (40_supervisor.md R125). -/
theorem ServiceEnd.faultEntered (h : ServiceEnd s t) (ht : t.seq = .fault) : FaultEntered s t := by
  rcases h.ends with ⟨-, hseq, -⟩ | ⟨es, -, hbusy, hfault, htrace, hes⟩
  · rw [ht] at hseq; cases hseq
  · exact ⟨hfault, by rw [h.keeps], by rw [h.keeps], hbusy, by rw [h.keeps], es, htrace,
      fun e he => Event.ofService_beforeFault (hes e he)⟩

theorem dispatchSeq_ne_fault (i : Instr) : dispatchSeq i ≠ .fault := by
  cases i <;> simp [dispatchSeq]

/-- Only a faulting access takes a handler step into FAULT. -/
theorem handlerStep_faultEntered (hs : s.seq ≠ .fault) (h : handlerStep s = .next t) (ht : t.seq = .fault) :
    FaultEntered s t := by
  unfold handlerStep at h
  split at h
  · rcases stepProbeLoad_cases h with rfl | rfl
    · exact faultEntered_raiseFault s
    · cases ht
  · rcases stepProbeCheck_cases h with rfl | ⟨-, -, rfl⟩ | ⟨-, rfl⟩
    · exact faultEntered_raiseFault s
    · cases ht
    · cases ht
  · rcases stepUpload_cases h with rfl | rfl
    · exact faultEntered_raiseFault s
    · cases ht
  · exact stepRunning_faultEntered h ht
  · rcases stepCheckResult_cases h with rfl | ⟨b, -, rfl, -⟩
    · exact faultEntered_raiseFault s
    · exact absurd ht (dispatchSeq_ne_fault b.dispatch)
  · cases h; cases ht
  · have hend := execStorage_end (computed := s.sb.computed) (expected := s.sb.expected) h
    obtain ⟨hfault, hind, hmsg, hbusy, hentry, htrace⟩ := hend.faultEntered ht
    exact ⟨hfault, hind, hmsg, hbusy, hentry, htrace⟩
  · cases h; cases ht
  all_goals cases h; exact absurd ht hs

/-- Settles O15: the co-processor's move keeps outputs, start address and trace, and the handler step faults at an access. -/
theorem faultEntry : Obligations.FaultEntry := by
  intro s t hs h ht
  obtain ⟨-, -, -, -, -, -, -, -, hind, hmsg, -, hentry, -, htrace⟩ := cpTurn_keeps s
  have hs' : (cpTurn s).seq ≠ .fault := by rwa [cpTurn_seq]
  obtain ⟨hfault, hind', hmsg', hbusy', hentry', es, htrace', hes⟩ := handlerStep_faultEntered hs' h ht
  exact ⟨hfault, hind'.trans hind, hmsg'.trans hmsg, hbusy', hentry'.trans hentry, es, htrace ▸ htrace', hes _,
    fun _ => hes _, fun _ => hes _⟩

/-! ## The co-processor's move -/

/-- The co-processor's writes reach no byte outside its memory (log 31). -/
theorem read_cpWrites_outside {size a : Nat} (h : size ≤ a) (m : Memory) (ws : List (Nat × Byte)) :
    (cpWrites size m ws).read a = m.read a := by
  induction ws generalizing m with
  | nil => rfl
  | cons w ws ih =>
    rw [cpWrites, ih]
    split
    · exact Memory.read_write_other (by omega) m w.2
    · rfl

/-- A byte of co-processor memory ends at the last value the co-processor wrote there (20_memory.md R65). -/
theorem read_cpWrites {size a : Nat} {m : Memory} (hm : Memory.wf m = true) (ha : a < size) (ws : List (Nat × Byte)) :
    (cpWrites size m ws).read a = ((ws.reverse.find? fun w => w.1 == a).map Prod.snd).getD (m.read a) := by
  induction ws generalizing m with
  | nil => rfl
  | cons w ws ih =>
    have hm' : Memory.wf (if w.1 < size then m.write w.1 w.2 else m) = true := by
      split
      · exact Memory.write_wf hm w.1 w.2
      · exact hm
    rw [cpWrites, ih hm', List.reverse_cons, List.find?_append]
    cases ws.reverse.find? fun w => w.1 == a with
    | some v => rfl
    | none =>
      by_cases hw : w.1 = a
      · subst hw
        simp [ha, Memory.read_write_same hm]
      · have hother : (m.write w.1 w.2).read a = m.read a := Memory.read_write_other (Ne.symm hw) m w.2
        simp [hw, apply_ite (Memory.read · a), hother]

/-- A running co-processor is halted by its move exactly if the move halts (60_exceptions.md R217). -/
theorem cpTurn_cpBusy (hb : s.cpBusy = true) : (cpTurn s).cpBusy = !(nextCpMove s).halts := by rw [cpTurn_running hb]

theorem cpTurn_cpScript (hb : s.cpBusy = true) : (cpTurn s).cpScript = s.cpScript.tail := by rw [cpTurn_running hb]

/-- The co-processor's move reaches no byte outside its memory (log 31). -/
theorem cpTurn_read_outside {a : Nat} (h : s.cfg.cpMemSize ≤ a) : (cpTurn s).mem.read a = s.mem.read a := by
  cases hb : s.cpBusy with
  | true => rw [cpTurn_running hb]; exact read_cpWrites_outside h _ _
  | false => rw [cpTurn_halted hb]

/-- Settles O26: by the busy bit; a move's writes by their laws. -/
theorem coprocessorTurnFrame : Obligations.CoprocessorTurnFrame := by
  intro s
  refine ⟨?_, cpTurn_halted, fun _ => cpTurn_read_other, fun _ => cpTurn_read_outside, fun hb => ?_⟩
  · cases hb : s.cpBusy with
    | true => rw [cpTurn_running hb]
    | false => rw [cpTurn_halted hb]
  · refine ⟨cpTurn_cpBusy hb, cpTurn_cpScript hb, by rw [cpTurn_running hb], fun hm a ha => ?_⟩
    rw [cpTurn_running hb, read_cpWrites hm ha]
    cases (nextCpMove s).writes.reverse.find? fun w => w.1 == a <;> rfl

/-! ## A co-processor that never halts -/

/-- A RUNNING cycle whose co-processor move does not halt stays in RUNNING, the script one move shorter (60_exceptions.md R215). -/
theorem step_running_of_not_halts (hs : s.seq = .running) (hb : s.cpBusy = true) (hr : s.cfg.inputAddr < s.cfg.cpMemSize)
    (hm : (nextCpMove s).halts = false) :
    ∃ t, step s = .next t ∧ t.seq = .running ∧ t.cpBusy = true ∧ t.cfg = s.cfg ∧ t.cpScript = s.cpScript.tail := by
  have hb' : (cpTurn s).cpBusy = true := by rw [cpTurn_cpBusy hb, hm]; rfl
  cases ho : s.cfg.keyOrder with
  | checkFirst =>
    obtain ⟨hbusy, -⟩ := runningCheckFirst s hs ho
    exact ⟨_, hbusy hb' hr, by simp [hs], hb', cpTurn_cfg s, cpTurn_cpScript hb⟩
  | writeFirst =>
    exact ⟨_, runningWriteFirst s hs ho hr, by simp [hb'], hb', cpTurn_cfg s, cpTurn_cpScript hb⟩

/-- Settles O25, by induction on the number of steps: each uses up one move of the script. -/
theorem runningWhileNeverHalting : Obligations.RunningWhileNeverHalting := by
  intro n s hs hb hr hlen hhalts
  induction n generalizing s with
  | zero => exact ⟨s, rfl, hs, hb⟩
  | succ n ih =>
    cases hscript : s.cpScript with
    | nil => simp [hscript] at hlen
    | cons m ms =>
      rw [hscript, List.forall_mem_cons] at hhalts
      obtain ⟨hm, hms⟩ := hhalts
      obtain ⟨t, ht, hseq, hbusy, hcfg, htail⟩ := step_running_of_not_halts hs hb hr (by simpa [nextCpMove, hscript] using hm)
      rw [hscript, List.tail_cons] at htail
      rw [run_succ ht]
      exact ih t hseq hbusy (by rwa [hcfg]) (by simpa [hscript, htail] using hlen) (by rwa [htail])

end Sys2Proof.Machine
end
